-- ==== Sys2Proof/Word.lean ====
section
/-! DEFINITION. The words of the part (bytes, 16-bit counters), slot numbers, and a family of eight like things. -/

namespace Sys2Proof

/-- One byte, on the host link, in an image or on the sideband bus. -/
abbrev Byte := BitVec 8

/-- A 16-bit generation or sequence counter (R41, R94, R194). -/
abbrev Word16 := BitVec 16

/-- A slot number, 0 to 7. -/
abbrev SlotNo := Fin 8

/-- Eight like things, one for each slot: the slot records (R41), the presence lines (R208). -/
structure Eight (α : Type) where
  e0 : α
  e1 : α
  e2 : α
  e3 : α
  e4 : α
  e5 : α
  e6 : α
  e7 : α
  deriving DecidableEq, Repr

namespace Eight

/-- The thing of slot `n`. -/
def get {α : Type} (v : Eight α) (n : SlotNo) : α :=
  match n with
  | 0 => v.e0
  | 1 => v.e1
  | 2 => v.e2
  | 3 => v.e3
  | 4 => v.e4
  | 5 => v.e5
  | 6 => v.e6
  | 7 => v.e7

/-- The eight things that `f` gives. -/
def ofFn {α : Type} (f : SlotNo → α) : Eight α :=
  ⟨f 0, f 1, f 2, f 3, f 4, f 5, f 6, f 7⟩

/-- The same things but for slot `n`, whose thing is `a`. -/
def set {α : Type} (v : Eight α) (n : SlotNo) (a : α) : Eight α :=
  ofFn fun m => if m = n then a else v.get m

end Eight

/-- The eight slot numbers in ascending order. -/
def allSlots : List SlotNo := [0, 1, 2, 3, 4, 5, 6, 7]

end Sys2Proof
end

