-- ==== Sys2Proof/Syntax.lean ====
section
/-! DEFINITION. The commands: one constructor for each row of spec/opcode_table.json. A request row is a good frame of that
kind, carried as its TAG and PAYLOAD bytes (R151, R205); an event row carries what the event brings from outside. -/

namespace Sys2Proof

/-- The commands of the part. Each is one whole, indivisible event (00_scope.md, Events and time). -/
inductive Instr where
  /-- RESET_N is asserted or power is applied (R166). -/
  | lineReset
  /-- RESET_N is released, with the levels of RATE and of the eight presence lines then (R43, R150); true is high. -/
  | lineResetRelease (rateHigh : Bool) (presHigh : Eight Bool)
  /-- Presence line `n` goes from high to low (R44). -/
  | presenceLow (n : SlotNo)
  /-- Presence line `n` goes from low to high (R45). -/
  | presenceHigh (n : SlotNo)
  /-- The settle timer of slot `n` expires (R46). -/
  | settleExpiry (n : SlotNo)
  /-- A SCAN segment's read ends successfully with these 16 bytes (R74). -/
  | segmentDone (bytes : List Byte)
  /-- The transaction on the bus fails (R72); in a page write, `dataAcked` says whether any data byte was acknowledged in it (R77). -/
  | transactionFailed (dataAcked : Bool)
  /-- The 1 ms retry wait expires (R72). -/
  | retryTimerExpiry
  /-- A released bus line has been low for 25 ms (R73); `dataAcked` as in `transactionFailed`, for the page write then on the bus. -/
  | stuckBus (dataAcked : Bool)
  /-- A recovery has sent its pulses and its stop condition (R80): the levels of SDA seen before each possible pulse (true is
  high), and the levels of both lines after the stop condition. -/
  | recoveryEnd (sdaLooks : List Bool) (sclHigh sdaHigh : Bool)
  /-- A MODULE READ transaction ends successfully with these bytes (R76). -/
  | moduleReadDone (bytes : List Byte)
  /-- A page write ends with every byte acknowledged (R77). -/
  | pageWriteDone
  /-- A 1 ms poll interval expires (R78). -/
  | pollTimerExpiry
  /-- A poll ends, acknowledged or not (R78). -/
  | pollDone (acked : Bool)
  /-- The read-back of the written page ends with these 16 bytes (R79). -/
  | readBackDone (bytes : List Byte)
  /-- The stop condition of a USER WRITE abandoned at a removal is on the bus (R87). -/
  | userWriteAbandonEnd
  /-- The Resolver finishes its work (R110). -/
  | resolutionComplete
  /-- A character arrives with its stop bit low (R150). -/
  | characterDropped
  /-- A byte arrives on RXD (R152). -/
  | byteReceived (b : Byte)
  /-- The 20 ms gap timer expires (R154). -/
  | gapExpiry
  /-- A good frame whose KIND is no request kind (R157). -/
  | unknownKind (tag kind : Byte) (payload : List Byte)
  /-- A good frame of kind INFO (R169). -/
  | info (tag : Byte) (payload : List Byte)
  /-- A good frame of kind CONFIGURE (R102, R170). -/
  | configure (tag : Byte) (payload : List Byte)
  /-- A good frame of kind SET TARGET (R95, R171). -/
  | setTarget (tag : Byte) (payload : List Byte)
  /-- A good frame of kind GET TARGET (R98, R171). -/
  | getTarget (tag : Byte) (payload : List Byte)
  /-- A good frame of kind SET LADDER (R100, R172). -/
  | setLadder (tag : Byte) (payload : List Byte)
  /-- A good frame of kind GET LADDER (R100, R172). -/
  | getLadder (tag : Byte) (payload : List Byte)
  /-- A good frame of kind LIST SLOTS (R173). -/
  | listSlots (tag : Byte) (payload : List Byte)
  /-- A good frame of kind GET SLOT (R174). -/
  | getSlot (tag : Byte) (payload : List Byte)
  /-- A good frame of kind READ IMAGE (R177). -/
  | readImage (tag : Byte) (payload : List Byte)
  /-- A good frame of kind READ MODULE (R178). -/
  | readModule (tag : Byte) (payload : List Byte)
  /-- A good frame of kind WRITE USER (R179). -/
  | writeUser (tag : Byte) (payload : List Byte)
  /-- A good frame of kind RESCAN (R181). -/
  | rescan (tag : Byte) (payload : List Byte)
  /-- A good frame of kind SET OVERRIDE (R58, R183). -/
  | setOverride (tag : Byte) (payload : List Byte)
  /-- A good frame of kind CLEAR OVERRIDES (R59, R183). -/
  | clearOverrides (tag : Byte) (payload : List Byte)
  /-- A good frame of kind RESOLVE (R134, R184). -/
  | resolve (tag : Byte) (payload : List Byte)
  /-- A good frame of kind GET PROFILE (R147, R185). -/
  | getProfile (tag : Byte) (payload : List Byte)
  /-- A good frame of kind LIST PROFILES (R147, R185). -/
  | listProfiles (tag : Byte) (payload : List Byte)
  /-- A good frame of kind APPLY (R142). -/
  | applyProfile (tag : Byte) (payload : List Byte)
  /-- A good frame of kind UNAPPLY (R143). -/
  | unapplyProfile (tag : Byte) (payload : List Byte)
  /-- A good frame of kind DROP (R145). -/
  | dropProfile (tag : Byte) (payload : List Byte)
  /-- A good frame of kind FETCH NOTICES (R187, R197). -/
  | fetchNotices (tag : Byte) (payload : List Byte)
  /-- A good frame of kind CANCEL (R163, R188). -/
  | cancel (tag : Byte) (payload : List Byte)
  /-- A good frame of kind BUS RESET (R189). -/
  | busReset (tag : Byte) (payload : List Byte)
  /-- A RESET frame whose scope is not FULL: scope SESSION, or a malformed one (R164, R190). -/
  | resetSession (tag : Byte) (payload : List Byte)
  /-- A RESET frame whose scope is not SESSION: scope FULL, or a malformed one (R165, R190). -/
  | resetFull (tag : Byte) (payload : List Byte)
  /-- TXD is idle and the oldest reply starts being sent (R161). -/
  | replySendStart
  /-- The last byte of the reply being sent has left the part (R161). -/
  | replySent
  deriving DecidableEq, Repr

end Sys2Proof
end

