-- ==== Sys2Proof/Decode.lean ====
section
/-! DEFINITION. Words of the table. No row of spec/opcode_table.json gives bits: commands are events and frames, not words. -/

namespace Sys2Proof

/-- The command a word spells by the table's bits: none, since no row has any. -/
def decodeTableWord (_nbits _w : Nat) : Option Instr := none

end Sys2Proof
end

