-- ==== Sys2Proof/Machine/Bytes.lean ====
section
/-! DEFINITION. Bytes: little-endian values (R202), the CRC of R21, and writing bytes over a run of bytes. -/

namespace Sys2Proof.Machine

/-- A number as one byte. -/
def byte (n : Nat) : Byte := BitVec.ofNat 8 n

/-- A two-byte value, low byte first (R202). -/
def le2 (n : Nat) : List Byte := [byte n, byte (n / 0x100)]

/-- A three-byte value, low byte first (R202). -/
def le3 (n : Nat) : List Byte := [byte n, byte (n / 0x100), byte (n / 0x10000)]

/-- A four-byte value, low byte first (R202). -/
def le4 (n : Nat) : List Byte := [byte n, byte (n / 0x100), byte (n / 0x10000), byte (n / 0x1000000)]

/-- A signed four-byte value, two's complement, low byte first (R202). -/
def leSigned4 (i : Int) : List Byte := le4 (i % 0x100000000).toNat

/-- A boolean in a reply (R202). -/
def boolByte (b : Bool) : Byte := if b then 1 else 0

/-- The value of two bytes, low byte first (R202). -/
def ofLe2 (b0 b1 : Byte) : Nat := b0.toNat + 0x100 * b1.toNat

/-- The value of three bytes, low byte first (R202). -/
def ofLe3 (b0 b1 b2 : Byte) : Nat := b0.toNat + 0x100 * b1.toNat + 0x10000 * b2.toNat

/-- A signed byte (R202). -/
def signedByte (b : Byte) : Int := b.toInt

/-- One advance of the check register (R21, step 3). -/
def crcAdvance (r : BitVec 16) : BitVec 16 :=
  if r.msb then (r <<< 1) ^^^ 0x8005 else r <<< 1

/-- The check register after one covered byte: the byte into the high eight bits, then eight advances (R21). -/
def crcByte (r : BitVec 16) (b : Byte) : BitVec 16 :=
  Nat.repeat crcAdvance 8 (r ^^^ (b.setWidth 16 <<< 8))

/-- The CRC of R21 over a run of bytes. -/
def crc (bs : List Byte) : BitVec 16 := bs.foldl crcByte 0xFFFF

/-- `data` written over `bs` from position `off` on; what would fall past the end is dropped. -/
def overlay (bs : List Byte) (off : Nat) (data : List Byte) : List Byte :=
  match bs, off, data with
  | [], _, _ => []
  | b :: bs, 0, [] => b :: bs
  | _ :: bs, 0, d :: ds => d :: overlay bs 0 ds
  | b :: bs, off + 1, data => b :: overlay bs off data

/-- `len` bytes from position `off` on. -/
def window (bs : List Byte) (off len : Nat) : List Byte := (bs.drop off).take len

end Sys2Proof.Machine
end

