-- ==== Sys2Proof/Config.lean ====
section
/-! DEFINITION. What is fixed for the part: the capacities the spec gives, and the values the model chose where a level
is sampled only later (assumption log 2). The spec calls no value undefined, so there is no free value here. -/

namespace Sys2Proof.Config

/-- Waiting jobs the Job Queue can come to hold (R70, R169). -/
def maxWaitingJobs : Nat := 12

/-- Profile entries (R130, R169). -/
def profileEntries : Nat := 6

/-- Entries of the Period Ladder at most (R99, R169). -/
def maxLadder : Nat := 12

/-- Notice Queue entries at most (R195, R169). -/
def maxNotices : Nat := 16

/-- Ordinary notices at most: one place is kept for NOTICES_LOST (R195). -/
def maxOrdinaryNotices : Nat := 15

/-- Outstanding requests at most (R159, R169). -/
def maxOutstanding : Nat := 4

/-- Places for replies: transmit order and outstanding requests together (R156). -/
def replyPlaces : Nat := 8

/-- Entries of a slot's override list at most (R58, R60). -/
def maxOverrides : Nat := 8

/-- Faults a fault list shows (R25). -/
def maxListedFaults : Nat := 8

/-- DESIGN CHOICE (log 2), unsafe: the rate held while the reset line is asserted, before RATE is sampled (R150). -/
def resetRateHigh : Bool := false

/-- DESIGN CHOICE (log 2), unsafe: the level held for each presence line before the lines are sampled (R43). -/
def resetPresHigh : Bool := true

end Sys2Proof.Config
end

