-- ==== Sys2Proof/Machine/Types.lean ====
section
/-! DEFINITION. The records the blocks of the part hold: images and decoded values, slot records, jobs, Settings, working
record, profile entries, replies, notices. Only data; no computation. -/

namespace Sys2Proof.Machine

/-! ### Descriptor images and what they decode to -/

/-- The memory kinds of R6. -/
inductive MemKind where
  | kindA
  | kindB
  deriving DecidableEq, Repr

/-- The module classes of R7. -/
inductive ModClass where
  | plain
  | buffered
  deriving DecidableEq, Repr

/-- The data widths of R8. -/
inductive Width where
  | w32
  | w64
  | w72
  deriving DecidableEq, Repr

/-- The timing parameters, in the order of R11, and REFRESH, which only a failure names (R122, R204). -/
inductive Param where
  | fper
  | sper
  | acc
  | opn
  | cls
  | hld
  | cyc
  | rfr
  | trn
  | rcl
  | wrc
  | win
  | refresh
  deriving DecidableEq, Repr

/-- The effective times of the twelve time fields, in ps (R10, R11). -/
structure Times where
  fper : Int
  sper : Int
  acc : Int
  opn : Int
  cls : Int
  hld : Int
  cyc : Int
  rfr : Int
  trn : Int
  rcl : Int
  wrc : Int
  win : Int
  deriving DecidableEq, Repr

/-- A decoded activation budget (R15); unknown is the absence of one. -/
inductive Budget where
  | untested
  | unlimited
  | numeric (count window : Nat)
  deriving DecidableEq, Repr

/-- A drive level of R17. -/
inductive DriveLevel where
  | light
  | moderate
  | strong
  deriving DecidableEq, Repr

/-- The four signal groups of a BUFFERED module, in the order of R17. -/
inductive SignalGroup where
  | command
  | control
  | clockA
  | clockB
  deriving DecidableEq, Repr

/-- The four drive levels of R17; `none` is unknown. -/
structure Drives where
  command : Option DriveLevel
  control : Option DriveLevel
  clockA : Option DriveLevel
  clockB : Option DriveLevel
  deriving DecidableEq, Repr

/-- A per-slot output of R125: the rank-swap flag of a PLAIN module or the drive levels of a BUFFERED one. -/
inductive SlotOutput where
  | rankSwap (set : Bool)
  | drives (levels : Drives)
  deriving DecidableEq, Repr

/-- The decoded values a resolution copies from a slot's image (R107); `none` marks an unknown or absent field (R3). -/
structure Decoded where
  kind : Option MemKind
  cls : Option ModClass
  width : Option Width
  times : Option Times
  latencies : Option (List Nat)
  refreshBase : Nat
  extRange : Bool
  extNative : Bool
  budget : Option Budget
  output : Option SlotOutput
  deriving DecidableEq, Repr

/-! ### Validation -/

/-- Which maker code a MAKER_PARITY fault names (R24). -/
inductive MakerCode where
  | module
  | buffer
  deriving DecidableEq, Repr

/-- Which date byte a DATE_BCD fault names (R24). -/
inductive DateByte where
  | year
  | week
  deriving DecidableEq, Repr

/-- A fault of an image, with the detail its code carries (R24). -/
inductive ImageFault where
  | crcMismatch
  | formatMajor
  | kindUnknown
  | classUnknown
  | widthUnknown
  | ranksUnknown
  | grainUnknown
  | timeNotPositive (p : Param)
  | periodOrder
  | cycleShort
  | latencyList
  | refreshRange
  | thermalFlags
  | budgetCode
  | bufferKind
  | driveLevel (g : SignalGroup)
  | makerParity (m : MakerCode)
  | dateBcd (d : DateByte)
  | textChar (position : Nat)
  deriving DecidableEq, Repr

/-- The fault families of R24. -/
inductive FaultFamily where
  | integrity
  | content
  | identity
  deriving DecidableEq, Repr

/-! ### Slot records -/

/-- The seven slot states of R42. -/
inductive SlotState where
  | empty
  | settling
  | reading
  | valid
  | suspect
  | unusable
  | unreadable
  deriving DecidableEq, Repr

/-- Why a slot is UNREADABLE (R41). -/
inductive UnreadableCause where
  | noResponse
  | bus
  deriving DecidableEq, Repr

/-- What the Descriptor Validator hands to the Slot Table (R23). -/
structure Verdict where
  faults : List ImageFault
  more : Bool
  classification : SlotState
  key : List Byte
  deriving DecidableEq, Repr

/-- The part's copy of an image: 256 bytes and a valid mark for each of the 16 pages (R41, R57). -/
structure ImageCopy where
  bytes : List Byte
  marks : List Bool
  deriving DecidableEq, Repr

/-- An override: a timing parameter and its value in ps (R58). -/
structure Override where
  param : Param
  value : Nat
  deriving DecidableEq, Repr

/-- A slot record (R41) with the slot's settle timer: the time in ms it was started with while it runs (R47). -/
structure Slot where
  state : SlotState
  present : Bool
  gen : Word16
  image : Option ImageCopy
  faults : List ImageFault
  more : Bool
  key : Option (List Byte)
  clash : List SlotNo
  cause : Option UnreadableCause
  overrides : List Override
  settle : Option Nat
  deriving DecidableEq, Repr

/-! ### The sideband bus -/

/-- The four bus states of R65. -/
inductive BusState where
  | idle
  | busy
  | recovering
  | faulted
  deriving DecidableEq, Repr

/-- The bus speeds of R66. -/
inductive BusSpeed where
  | khz100
  | khz400
  deriving DecidableEq, Repr

/-- A job's kind with its slot and arguments (R67). -/
inductive JobWork where
  | scan (slot : SlotNo)
  | moduleRead (slot : SlotNo) (offset length : Nat)
  | userWrite (slot : SlotNo) (offset : Nat) (data : List Byte)
  | recover
  deriving DecidableEq, Repr

/-- A job record as it waits: its work and its claims (R67, R68). -/
structure Job where
  work : JobWork
  presence : Bool
  tags : List Byte
  deriving DecidableEq, Repr

/-- The phases of a USER WRITE (R77 to R79). -/
inductive WritePhase where
  | writing
  | polling
  | readBack
  deriving DecidableEq, Repr

/-- What the job in flight is doing on the bus: a transaction (R66), a retry wait (R72), the wait before a poll and a poll
(R78), the stop condition of an abandoned USER WRITE (R87), or a recovery (R80). -/
inductive Activity where
  | transaction
  | retryWait
  | pollWait
  | poll
  | stopCondition
  | recovery
  deriving DecidableEq, Repr

/-- The job in flight, with its progress, its stop mark (R67) and whether, as a RECOVER, it began in FAULTED (R84). -/
structure InFlight where
  job : Job
  stopMark : Bool
  activity : Activity
  failed : Nat
  bytesRead : List Byte
  phase : WritePhase
  dataAcked : Bool
  polls : Nat
  fromFaulted : Bool
  deriving DecidableEq, Repr

/-- A transaction on the sideband bus (R66). -/
inductive BusTransaction where
  | read (slot : SlotNo) (offset length : Nat)
  | pageWrite (slot : SlotNo) (offset : Nat) (data : List Byte)
  | poll (slot : SlotNo)
  deriving DecidableEq, Repr

/-- A step of a transaction on the sideband bus (R66): a start condition (a repeated one in a read), a byte the controller sends,
a byte it takes and acknowledges or not, a stop condition. -/
inductive BusSymbol where
  | start
  | send (b : Byte)
  | take (acknowledged : Bool)
  | stop
  deriving DecidableEq, Repr

/-- What the part does with the lines SCL and SDA (R66, R80, R87, R208): it releases both, or pulls them low as a
transaction, the stop condition of an abandoned USER WRITE, or a recovery calls for (the bits of a byte: log 20). -/
inductive LineUse where
  | released
  | transaction (t : BusTransaction)
  | stopCondition
  | recovery
  deriving DecidableEq, Repr

/-! ### Settings -/

/-- One thing for each of the nine parameters that become clock counts (R93, R120). -/
structure Nine (α : Type) where
  opn : α
  cls : α
  hld : α
  cyc : α
  rfr : α
  trn : α
  rcl : α
  wrc : α
  win : α
  deriving DecidableEq, Repr

/-- The Target Record (R93); an expected width of `none` is ANY. -/
structure Target where
  periodMin : Nat
  periodMax : Nat
  latencyMin : Nat
  latencyMax : Nat
  floors : Nine Nat
  allowance : Nat
  expectedWidth : Option Width
  requireBudget : Bool
  deriving DecidableEq, Repr

/-- The three configuration settings (R102). -/
structure Configuration where
  settleMs : Nat
  busSpeed : BusSpeed
  alertEnable : Bool
  deriving DecidableEq, Repr

/-! ### Resolution and profiles -/

/-- How a RESOLVE chooses its period (R117, R118). -/
inductive ResolveMode where
  | fastest
  | fixed (period : Nat)
  deriving DecidableEq, Repr

/-- The request held in a profile entry (R130). -/
structure ResolveRequest where
  slots : List SlotNo
  mode : ResolveMode
  hot : Bool
  acceptSuspect : Bool
  deriving DecidableEq, Repr

/-- A slot copy of the working record (R107); of a slot without an image copy neither decoded values nor overrides. -/
structure SlotCopy where
  slot : SlotNo
  state : SlotState
  clash : Bool
  decoded : Option Decoded
  overrides : List Override
  deriving DecidableEq, Repr

/-- The Resolver's working record (R107). -/
structure Work where
  request : ResolveRequest
  copies : List SlotCopy
  target : Target
  ladder : Option (List Nat)
  deriving DecidableEq, Repr

/-- A profile's budget (R123, R127). -/
inductive ProfileBudget where
  | unlimited
  | limited (count window : Nat)
  deriving DecidableEq, Repr

/-- The result record of R127. -/
structure Profile where
  period : Nat
  latency : Nat
  counts : Nine Nat
  refresh : Nat
  budget : ProfileBudget
  unknown : Bool
  suspect : Bool
  cls : ModClass
  outputs : List (SlotNo × SlotOutput)
  deriving DecidableEq, Repr

/-- The failure reasons of R128. -/
inductive FailureReason where
  | notReady
  | mixedKind
  | mixedClass
  | mixedWidth
  | widthMismatch
  | notRatedHot
  | noPeriod
  | periodOutOfRange
  | noLatency
  | countOverflow
  | budgetUnknown
  deriving DecidableEq, Repr

/-- The failure record of R128. -/
structure Failure where
  reason : FailureReason
  slot : Option SlotNo
  param : Option Param
  deriving DecidableEq, Repr

/-- What the Resolver hands over at completion (R110). -/
inductive Outcome where
  | failure (f : Failure)
  | result (p : Profile)
  deriving DecidableEq, Repr

/-- The snapshot of R106. -/
structure Snapshot where
  gens : List (SlotNo × Word16)
  target : Word16
  deriving DecidableEq, Repr

/-- The state of an entry that is not FREE, with the fields present in it (R130). -/
inductive EntryState where
  | queued (tag : Byte)
  | building (tag : Byte) (snapshot : Snapshot)
  | valid (snapshot : Snapshot) (result : Profile)
  | stale (snapshot : Snapshot) (result : Profile)
  | failed (snapshot : Snapshot) (failure : Failure)
  deriving DecidableEq, Repr

/-- A profile entry that is not FREE (R130). -/
structure Entry where
  handle : Byte
  creation : BitVec 32
  applied : Bool
  request : ResolveRequest
  state : EntryState
  deriving DecidableEq, Repr

/-! ### The host link -/

/-- The statuses of R204. -/
inductive Status where
  | ok
  | full
  | duplicateTag
  | unknownKind
  | badArgument
  | notReady
  | notCached
  | isProtected
  | inUse
  | notFound
  | unknownProfile
  | tableFull
  | busFault
  | noResponse
  | writeTimeout
  | mismatch
  | removed
  | cancelled
  | tooLate
  | aborted
  | stale
  | failed
  deriving DecidableEq, Repr

/-- A reply: the tag and the KIND byte of the request it answers, its status and its payload (R151). -/
structure Reply where
  tag : Byte
  kind : Byte
  status : Status
  payload : List Byte
  deriving DecidableEq, Repr

/-- The claim an outstanding request holds (R159): a bus job, found by its tag, or a profile entry, found by its tag. -/
inductive Claim where
  | busJob
  | profile
  deriving DecidableEq, Repr

/-- A record of the Request Inbox (R159). -/
structure Outstanding where
  tag : Byte
  kind : Byte
  claim : Claim
  deriving DecidableEq, Repr

/-- The receiver's phases (R152). -/
inductive RxPhase where
  | hunt
  | length
  | body
  | check
  deriving DecidableEq, Repr

/-- The receiver: its phase, the bytes still expected in it, the bytes since START, the gap timer (R152 to R154). The count
is set by LEN (R153) and is 0 in HUNT and LENGTH by the model's choice (log 23). -/
structure Receiver where
  phase : RxPhase
  expected : Nat
  buffer : List Byte
  gapRunning : Bool
  deriving DecidableEq, Repr

/-- The views of GET SLOT (R174). -/
inductive View where
  | summary
  | faults
  | timings
  | cls
  | identity
  | overrides
  deriving DecidableEq, Repr

/-! ### Notices -/

/-- Why a frame was discarded (R153 to R156). -/
inductive DropCause where
  | gap
  | length
  | check
  | overrun
  deriving DecidableEq, Repr

/-- A notice's kind with the fields the kind carries (R192). -/
inductive NoticeBody where
  | slotInserted (slot : SlotNo)
  | slotRemoved (slot : SlotNo)
  | scanDone (slot : SlotNo) (state : SlotState)
  | moduleReplaced (slot : SlotNo)
  | duplicateIdentity (slot partner : SlotNo)
  | profileStale (handle : Byte)
  | appliedBroken (handle : Byte) (slot : SlotNo)
  | busFaulted
  | busRecovered
  | linkFrameDropped (cause : DropCause)
  | noticesLost (tally : Nat)
  deriving DecidableEq, Repr

/-- A record of the Notice Queue (R191). -/
structure Notice where
  seq : Word16
  body : NoticeBody
  deriving DecidableEq, Repr

end Sys2Proof.Machine
end

