-- ==== Sys2Proof/Machine/Codes.lean ====
section
/-! DEFINITION. The code tables of R204 and R207, and the fixed bytes of frames, INFO and the sideband bus (R151, R169, R208). -/

namespace Sys2Proof.Machine

/-- START (R151). -/
def startByte : Byte := 0xB6

/-- The part code (R206). -/
def partCode : Nat := 0x0D08

/-- The revision (R206). -/
def partRevision : Nat := 1

/-! Request kinds (R204). -/

def kindInfo : Byte := 0x01
def kindConfigure : Byte := 0x02
def kindSetTarget : Byte := 0x03
def kindGetTarget : Byte := 0x04
def kindSetLadder : Byte := 0x05
def kindGetLadder : Byte := 0x06
def kindListSlots : Byte := 0x10
def kindGetSlot : Byte := 0x11
def kindReadImage : Byte := 0x12
def kindReadModule : Byte := 0x13
def kindWriteUser : Byte := 0x14
def kindRescan : Byte := 0x15
def kindSetOverride : Byte := 0x16
def kindClearOverrides : Byte := 0x17
def kindResolve : Byte := 0x20
def kindGetProfile : Byte := 0x21
def kindListProfiles : Byte := 0x22
def kindApply : Byte := 0x23
def kindUnapply : Byte := 0x24
def kindDrop : Byte := 0x25
def kindFetchNotices : Byte := 0x30
def kindCancel : Byte := 0x31
def kindBusReset : Byte := 0x32
def kindReset : Byte := 0x33

/-- The twenty-four request kinds (R204). -/
def requestKinds : List Byte :=
  [kindInfo, kindConfigure, kindSetTarget, kindGetTarget, kindSetLadder, kindGetLadder, kindListSlots, kindGetSlot,
    kindReadImage, kindReadModule, kindWriteUser, kindRescan, kindSetOverride, kindClearOverrides, kindResolve,
    kindGetProfile, kindListProfiles, kindApply, kindUnapply, kindDrop, kindFetchNotices, kindCancel, kindBusReset,
    kindReset]

/-- The kinds that pass the FULL check (R157). -/
def passesFull : List Byte := [kindFetchNotices, kindCancel, kindReset]

/-- Status codes (R204). -/
def statusCode : Status → Byte
  | .ok => 0x00
  | .full => 0x01
  | .duplicateTag => 0x02
  | .unknownKind => 0x03
  | .badArgument => 0x04
  | .notReady => 0x05
  | .notCached => 0x06
  | .isProtected => 0x07
  | .inUse => 0x08
  | .notFound => 0x09
  | .unknownProfile => 0x0A
  | .tableFull => 0x0B
  | .busFault => 0x0C
  | .noResponse => 0x0D
  | .writeTimeout => 0x0E
  | .mismatch => 0x0F
  | .removed => 0x10
  | .cancelled => 0x11
  | .tooLate => 0x12
  | .aborted => 0x13
  | .stale => 0x14
  | .failed => 0x15

/-- Slot state codes (R204). -/
def slotStateCode : SlotState → Byte
  | .empty => 0
  | .settling => 1
  | .reading => 2
  | .valid => 3
  | .suspect => 4
  | .unusable => 5
  | .unreadable => 6

/-- Unreadable cause codes; 0 is absent (R204). -/
def causeCode : Option UnreadableCause → Byte
  | none => 0
  | some .noResponse => 1
  | some .bus => 2

/-- Profile state codes (R204). -/
def entryStateCode : EntryState → Byte
  | .queued _ => 1
  | .building _ _ => 2
  | .valid _ _ => 3
  | .failed _ _ => 4
  | .stale _ _ => 5

/-- Bus state codes (R204). -/
def busStateCode : BusState → Byte
  | .idle => 0
  | .busy => 1
  | .recovering => 2
  | .faulted => 3

/-- Parameter codes (R204). -/
def paramCode : Param → Byte
  | .fper => 0x01
  | .sper => 0x02
  | .acc => 0x03
  | .opn => 0x04
  | .cls => 0x05
  | .hld => 0x06
  | .cyc => 0x07
  | .rfr => 0x08
  | .trn => 0x09
  | .rcl => 0x0A
  | .wrc => 0x0B
  | .win => 0x0C
  | .refresh => 0x0D

/-- The ten overridable parameters, in the order of the override mask (R206). -/
def overridableParams : List Param := [.acc, .opn, .cls, .hld, .cyc, .rfr, .trn, .rcl, .wrc, .win]

/-- The twelve parameters with a time field, in the order of R11. -/
def timeParams : List Param := [.fper, .sper, .acc, .opn, .cls, .hld, .cyc, .rfr, .trn, .rcl, .wrc, .win]

/-- Bus speed codes (R204). -/
def busSpeedCode : BusSpeed → Byte
  | .khz100 => 0
  | .khz400 => 1

/-- An expected width's byte; 0 is ANY (R204). -/
def expectedWidthCode : Option Width → Byte
  | none => 0
  | some .w32 => 32
  | some .w64 => 64
  | some .w72 => 72

/-- Class codes (R203). -/
def classCode : ModClass → Byte
  | .plain => 0
  | .buffered => 1

/-- Drive level codes; an unknown level is the stored code 3 when packed (R17, R203). -/
def driveCode : Option DriveLevel → Nat
  | some .light => 0
  | some .moderate => 1
  | some .strong => 2
  | none => 3

/-- Drive levels packed as at image offset 0x56 (R206). -/
def drivesByte (d : Drives) : Byte :=
  byte (driveCode d.command + 4 * driveCode d.control + 16 * driveCode d.clockA + 64 * driveCode d.clockB)

/-- A per-slot output's byte (R206). -/
def outputByte : SlotOutput → Byte
  | .rankSwap b => boolByte b
  | .drives d => drivesByte d

/-- Signal group codes (R204). -/
def groupCode : SignalGroup → Byte
  | .command => 0
  | .control => 1
  | .clockA => 2
  | .clockB => 3

/-- Fault codes, 1 to 19 in the order of R24. -/
def faultCode : ImageFault → Byte
  | .crcMismatch => 1
  | .formatMajor => 2
  | .kindUnknown => 3
  | .classUnknown => 4
  | .widthUnknown => 5
  | .ranksUnknown => 6
  | .grainUnknown => 7
  | .timeNotPositive _ => 8
  | .periodOrder => 9
  | .cycleShort => 10
  | .latencyList => 11
  | .refreshRange => 12
  | .thermalFlags => 13
  | .budgetCode => 14
  | .bufferKind => 15
  | .driveLevel _ => 16
  | .makerParity _ => 17
  | .dateBcd _ => 18
  | .textChar _ => 19

/-- Fault details; 0 for a code that carries none (R204). -/
def faultDetail : ImageFault → Byte
  | .timeNotPositive p => paramCode p
  | .driveLevel g => groupCode g
  | .makerParity .module => 0
  | .makerParity .buffer => 1
  | .dateBcd .year => 0
  | .dateBcd .week => 1
  | .textChar p => byte p
  | .crcMismatch => 0
  | .formatMajor => 0
  | .kindUnknown => 0
  | .classUnknown => 0
  | .widthUnknown => 0
  | .ranksUnknown => 0
  | .grainUnknown => 0
  | .periodOrder => 0
  | .cycleShort => 0
  | .latencyList => 0
  | .refreshRange => 0
  | .thermalFlags => 0
  | .budgetCode => 0
  | .bufferKind => 0

/-- The family of a fault (R24). -/
def faultFamily : ImageFault → FaultFamily
  | .crcMismatch => .integrity
  | .formatMajor => .content
  | .kindUnknown => .content
  | .classUnknown => .content
  | .widthUnknown => .content
  | .ranksUnknown => .content
  | .grainUnknown => .content
  | .timeNotPositive _ => .content
  | .periodOrder => .content
  | .cycleShort => .content
  | .latencyList => .content
  | .refreshRange => .content
  | .thermalFlags => .content
  | .budgetCode => .content
  | .bufferKind => .content
  | .driveLevel _ => .content
  | .makerParity _ => .identity
  | .dateBcd _ => .identity
  | .textChar _ => .identity

/-- Failure reason codes (R204). -/
def failureCode : FailureReason → Byte
  | .notReady => 0x01
  | .mixedKind => 0x02
  | .mixedClass => 0x03
  | .mixedWidth => 0x04
  | .widthMismatch => 0x05
  | .notRatedHot => 0x06
  | .noPeriod => 0x07
  | .periodOutOfRange => 0x08
  | .noLatency => 0x09
  | .countOverflow => 0x0A
  | .budgetUnknown => 0x0B

/-- A slot number's byte. -/
def slotByte (n : SlotNo) : Byte := byte n.val

/-- A slot number's byte, 0xFF when absent (R202). -/
def slotOrAbsent : Option SlotNo → Byte
  | none => 0xFF
  | some n => slotByte n

/-- A parameter's byte, 0 when absent (R202). -/
def paramOrAbsent : Option Param → Byte
  | none => 0
  | some p => paramCode p

/-- Frame drop causes (R204). -/
def dropCauseCode : DropCause → Byte
  | .gap => 0
  | .length => 1
  | .check => 2
  | .overrun => 3

/-- Notice kind codes (R207). -/
def noticeCode : NoticeBody → Byte
  | .slotInserted _ => 0x01
  | .slotRemoved _ => 0x02
  | .scanDone _ _ => 0x03
  | .moduleReplaced _ => 0x04
  | .duplicateIdentity _ _ => 0x05
  | .profileStale _ => 0x06
  | .appliedBroken _ _ => 0x07
  | .busFaulted => 0x08
  | .busRecovered => 0x09
  | .linkFrameDropped _ => 0x0A
  | .noticesLost _ => 0x0B

/-- The slot a notice carries (R192). -/
def noticeSlot : NoticeBody → Option SlotNo
  | .slotInserted n => some n
  | .slotRemoved n => some n
  | .scanDone n _ => some n
  | .moduleReplaced n => some n
  | .duplicateIdentity n _ => some n
  | .profileStale _ => none
  | .appliedBroken _ n => some n
  | .busFaulted => none
  | .busRecovered => none
  | .linkFrameDropped _ => none
  | .noticesLost _ => none

/-- The handle a notice carries, 0 when none (R192, R207). -/
def noticeHandle : NoticeBody → Byte
  | .profileStale h => h
  | .appliedBroken h _ => h
  | .slotInserted _ => 0
  | .slotRemoved _ => 0
  | .scanDone _ _ => 0
  | .moduleReplaced _ => 0
  | .duplicateIdentity _ _ => 0
  | .busFaulted => 0
  | .busRecovered => 0
  | .linkFrameDropped _ => 0
  | .noticesLost _ => 0

/-- The detail a notice carries, 0 when none (R192, R207). -/
def noticeDetail : NoticeBody → Byte
  | .scanDone _ st => slotStateCode st
  | .duplicateIdentity _ partner => slotByte partner
  | .linkFrameDropped c => dropCauseCode c
  | .noticesLost tally => byte tally
  | .slotInserted _ => 0
  | .slotRemoved _ => 0
  | .moduleReplaced _ => 0
  | .profileStale _ => 0
  | .appliedBroken _ _ => 0
  | .busFaulted => 0
  | .busRecovered => 0

/-- A notice record's six bytes (R207). -/
def noticeBytes (n : Notice) : List Byte :=
  le2 n.seq.toNat ++ [noticeCode n.body, slotOrAbsent (noticeSlot n.body), noticeHandle n.body, noticeDetail n.body]

/-- The bytes a reply's frame carries from TAG to the end of the payload: the KIND has its top bit set (R151). -/
def replyBody (r : Reply) : List Byte := [r.tag, r.kind ||| 0x80, statusCode r.status] ++ r.payload

/-- A run of bytes framed: START, LEN, the bytes, and CHECK over LEN and the bytes, low byte first (R151, R204). -/
def frame (body : List Byte) : List Byte :=
  [startByte, byte body.length] ++ body ++ le2 (crc (byte body.length :: body)).toNat

/-- A reply's frame on TXD (R151, R204). -/
def replyFrame (r : Reply) : List Byte := frame (replyBody r)

/-- A character's ten levels on the host link: the start bit, low, the data bits least significant first, 1 as high (log 25),
and one stop bit, high (log 24); no parity bit (R150). -/
def characterLevels (b : Byte) : List Bool := false :: (List.range 8).map (fun i => b.getLsbD i) ++ [true]

/-- The sideband address byte of slot `n`, to write (R208). -/
def addressWrite (n : SlotNo) : Byte := byte (2 * (0x28 + n.val))

/-- The sideband address byte of slot `n`, to read (R208). -/
def addressRead (n : SlotNo) : Byte := byte (2 * (0x28 + n.val) + 1)

/-- The bytes a read takes: each acknowledged except the last (R66). -/
def takenBytes (len : Nat) : List BusSymbol := List.replicate (len - 1) (.take true) ++ [.take false]

/-- A transaction from start condition to stop condition, the memory acknowledging its address and every byte (R66, R208). -/
def transactionSymbols : BusTransaction → List BusSymbol
  | .read n off len =>
    [.start, .send (addressWrite n), .send (byte off), .start, .send (addressRead n)] ++ takenBytes len ++ [.stop]
  | .pageWrite n off data => [.start, .send (addressWrite n), .send (byte off)] ++ data.map .send ++ [.stop]
  | .poll n => [.start, .send (addressRead n), .take false, .stop]

/-- The same where the memory does not acknowledge the byte sent at symbol `k`: a stop condition follows at once (R66). -/
def unacknowledgedAt (k : Nat) (t : BusTransaction) : List BusSymbol := (transactionSymbols t).take (k + 1) ++ [.stop]

/-- The byte a symbol sends. -/
def sentByte : BusSymbol → Option Byte
  | .send b => some b
  | .start => none
  | .take _ => none
  | .stop => none

/-- The bytes the controller sends in a transaction, address bytes included (R66, R208). -/
def transactionBytes (t : BusTransaction) : List Byte := (transactionSymbols t).filterMap sentByte

end Sys2Proof.Machine
end

