-- ==== Sys2Proof/Machine/Image.lean ====
section
/-! DEFINITION. What the bytes of a descriptor image decode to (R1 to R22), with the layout of R203. Every function reads
the image's bytes; an image is a list of 256 bytes. -/

namespace Sys2Proof.Machine

/-- The byte at an offset of an image. -/
def imageByte (img : List Byte) (off : Nat) : Byte := img.getD off 0

/-- A two-byte unsigned field (R202). -/
def imageWord (img : List Byte) (off : Nat) : Nat := ofLe2 (imageByte img off) (imageByte img (off + 1))

/-- Bits `lo` up to but not including `lo + len` of a byte, as a number. -/
def bitsOf (b : Byte) (lo len : Nat) : Nat := b.toNat / 2 ^ lo % 2 ^ len

/-- Identity covered, the most significant bit of the header flags (R4). -/
def identityCovered (img : List Byte) : Bool := (imageByte img 0x00).msb

/-- The major format revision (R5). -/
def majorRevision (img : List Byte) : Nat := bitsOf (imageByte img 0x01) 4 4

/-- The minor format revision (R5). -/
def minorRevision (img : List Byte) : Nat := bitsOf (imageByte img 0x01) 0 4

/-- The memory kind (R6). -/
def memKind (img : List Byte) : Option MemKind :=
  match (imageByte img 0x02).toNat with
  | 0x41 => some .kindA
  | 0x42 => some .kindB
  | _ => none

/-- The class (R7). -/
def modClass (img : List Byte) : Option ModClass :=
  match (imageByte img 0x03).toNat with
  | 0 => some .plain
  | 1 => some .buffered
  | _ => none

/-- The width (R8). -/
def dataWidth (img : List Byte) : Option Width :=
  match bitsOf (imageByte img 0x04) 0 2 with
  | 0 => some .w32
  | 1 => some .w64
  | 2 => some .w72
  | _ => none

/-- The rank count (R8). -/
def rankCount (img : List Byte) : Option Nat :=
  match bitsOf (imageByte img 0x04) 2 2 with
  | 0 => some 1
  | 1 => some 2
  | 2 => some 4
  | _ => none

/-- The grain in ps (R9). -/
def grain (img : List Byte) : Option Nat :=
  match (imageByte img 0x05).toNat with
  | 0 => some 100
  | 1 => some 250
  | _ => none

/-- The coarse value of a time field (R11, R203); REFRESH has none. -/
def coarse (img : List Byte) (p : Param) : Nat :=
  match p with
  | .fper => imageWord img 0x06
  | .sper => imageWord img 0x09
  | .acc => imageWord img 0x14
  | .opn => imageWord img 0x17
  | .cls => imageWord img 0x1A
  | .hld => imageWord img 0x1D
  | .cyc => imageWord img 0x1F
  | .rfr => imageWord img 0x22
  | .trn => (imageByte img 0x24).toNat
  | .rcl => (imageByte img 0x25).toNat
  | .wrc => (imageByte img 0x26).toNat
  | .win => imageWord img 0x27
  | .refresh => 0

/-- Where the fine byte of a time field stands, for the five fields that have one (R11, R203). -/
def fineOffset : Param → Option Nat
  | .fper => some 0x08
  | .acc => some 0x16
  | .opn => some 0x19
  | .cls => some 0x1C
  | .cyc => some 0x21
  | .sper => none
  | .hld => none
  | .rfr => none
  | .trn => none
  | .rcl => none
  | .wrc => none
  | .win => none
  | .refresh => none

/-- Whether a time field's coarse value is one byte wide (R11). -/
def coarseIsByte : Param → Bool
  | .trn => true
  | .rcl => true
  | .wrc => true
  | .fper => false
  | .sper => false
  | .acc => false
  | .opn => false
  | .cls => false
  | .hld => false
  | .cyc => false
  | .rfr => false
  | .win => false
  | .refresh => false

/-- The fine value of a time field, 0 where it has no fine byte (R10). -/
def fine (img : List Byte) (p : Param) : Int :=
  match fineOffset p with
  | some off => signedByte (imageByte img off)
  | none => 0

/-- The effective time of a field under a grain: coarse times grain plus fine times 2 ps (R10). -/
def effectiveTime (img : List Byte) (g : Nat) (p : Param) : Int := coarse img p * g + fine img p * 2

/-- The twelve effective times; absent when the grain is unknown (R9, R11). -/
def times (img : List Byte) : Option Times :=
  match grain img with
  | none => none
  | some g =>
    some
      { fper := effectiveTime img g .fper, sper := effectiveTime img g .sper, acc := effectiveTime img g .acc
        opn := effectiveTime img g .opn, cls := effectiveTime img g .cls, hld := effectiveTime img g .hld
        cyc := effectiveTime img g .cyc, rfr := effectiveTime img g .rfr, trn := effectiveTime img g .trn
        rcl := effectiveTime img g .rcl, wrc := effectiveTime img g .wrc, win := effectiveTime img g .win }

/-- One of the twelve times; REFRESH is not among them. -/
def timeOf (t : Times) : Param → Int
  | .fper => t.fper
  | .sper => t.sper
  | .acc => t.acc
  | .opn => t.opn
  | .cls => t.cls
  | .hld => t.hld
  | .cyc => t.cyc
  | .rfr => t.rfr
  | .trn => t.trn
  | .rcl => t.rcl
  | .wrc => t.wrc
  | .win => t.win
  | .refresh => 0

/-- The latency count (R12). -/
def latencyCount (img : List Byte) : Nat := (imageByte img 0x0B).toNat

/-- The latency list; absent for a count above 8 (R12). -/
def latencyList (img : List Byte) : Option (List Nat) :=
  if latencyCount img ≤ 8 then some ((window img 0x0C (latencyCount img)).map BitVec.toNat) else none

/-- The refresh interval base (R13). -/
def refreshBase (img : List Byte) : Nat := imageWord img 0x29

/-- EXT_RANGE (R14). -/
def extRange (img : List Byte) : Bool := (imageByte img 0x2B).getLsbD 0

/-- EXT_NATIVE (R14). -/
def extNative (img : List Byte) : Bool := (imageByte img 0x2B).getLsbD 1

/-- The window of a budget's window code; code 3 is unknown (R15). -/
def budgetWindow : Nat → Option Nat
  | 0 => some 1000
  | 1 => some 2000
  | 2 => some 4000
  | _ => none

/-- The budget of a budget byte; `none` is unknown (R15). -/
def budgetOf (b : Byte) : Option Budget :=
  let code := bitsOf b 0 4
  if code = 0 then some .untested
  else if code = 15 then some .unlimited
  else if code ≤ 9 then (budgetWindow (bitsOf b 4 2)).map (Budget.numeric (code * 100000))
  else none

/-- The budget (R15). -/
def budget (img : List Byte) : Option Budget := budgetOf (imageByte img 0x2C)

/-- The height code, the same byte in both layouts (R16, R17). -/
def heightCode (img : List Byte) : Byte := imageByte img 0x50

/-- The thickness code, the same byte in both layouts (R16, R17). -/
def thicknessCode (img : List Byte) : Byte := imageByte img 0x51

/-- The rank-swap flag of the PLAIN layout (R16). -/
def rankSwap (img : List Byte) : Bool := (imageByte img 0x52).getLsbD 0

/-- A drive level of a two-bit code; 3 is unknown (R17). -/
def driveLevel : Nat → Option DriveLevel
  | 0 => some .light
  | 1 => some .moderate
  | 2 => some .strong
  | _ => none

/-- The four levels of a drive-level byte, from the least significant pair upward (R17). -/
def drivesOf (b : Byte) : Drives :=
  { command := driveLevel (bitsOf b 0 2), control := driveLevel (bitsOf b 2 2)
    clockA := driveLevel (bitsOf b 4 2), clockB := driveLevel (bitsOf b 6 2) }

/-- The drive levels of the BUFFERED layout (R17). -/
def drives (img : List Byte) : Drives := drivesOf (imageByte img 0x56)

/-- The drive level of one signal group. -/
def driveOf (d : Drives) : SignalGroup → Option DriveLevel
  | .command => d.command
  | .control => d.control
  | .clockA => d.clockA
  | .clockB => d.clockB

/-- The buffer kind byte is one of the two defined codes (R17). -/
def bufferKindKnown (img : List Byte) : Bool := imageByte img 0x55 == 0x01 || imageByte img 0x55 == 0x02

/-- The bank number of a maker bank byte (R18). -/
def bankNumber (bank : Byte) : Nat := bitsOf bank 0 5

/-- How many bits of a byte are one. -/
def onesIn (b : Byte) : Nat := (List.range 8).countP fun i => b.getLsbD i

/-- A well-formed bank byte: an odd count of one bits, and zeros in the two bits above the bank number (R18). -/
def bankWellFormed (bank : Byte) : Bool := onesIn bank % 2 == 1 && bitsOf bank 5 2 == 0

/-- The module maker bank byte (R19, R203). -/
def makerBank (img : List Byte) : Byte := imageByte img 0x90

/-- The buffer maker bank byte of the BUFFERED layout (R17, R203). -/
def bufferBank (img : List Byte) : Byte := imageByte img 0x52

/-- The year byte (R19). -/
def yearByte (img : List Byte) : Byte := imageByte img 0x93

/-- The week byte (R19). -/
def weekByte (img : List Byte) : Byte := imageByte img 0x94

/-- Both digits of a BCD byte are 0 to 9 (R19). -/
def bcdDigits (b : Byte) : Bool := decide (bitsOf b 4 4 ≤ 9) && decide (bitsOf b 0 4 ≤ 9)

/-- The number the two digits of a BCD byte read as (R19). -/
def bcdValue (b : Byte) : Nat := 10 * bitsOf b 4 4 + bitsOf b 0 4

/-- The twenty characters of the part text (R19). -/
def partText (img : List Byte) : List Byte := window img 0x99 20

/-- The 67 accepted characters (R19). -/
def textAccepted (b : Byte) : Bool :=
  let c := b.toNat
  c == 0x20 || (0x2D ≤ c && c ≤ 0x2F) || (0x30 ≤ c && c ≤ 0x39) || (0x41 ≤ c && c ≤ 0x5A) || c == 0x5F ||
    (0x61 ≤ c && c ≤ 0x7A)

/-- The identity key: maker bank, maker code, year, week, and the four serial bytes, verbatim (R20, R203). -/
def identityKey (img : List Byte) : List Byte :=
  [makerBank img, imageByte img 0x91, yearByte img, weekByte img] ++
    [imageByte img 0x95, imageByte img 0x96, imageByte img 0x97, imageByte img 0x98]

/-- How many bytes the check covers, from offset 0 (R22). -/
def coveredLength (img : List Byte) : Nat := if identityCovered img then 176 else 144

/-- The computed check (R21, R22). -/
def computedCheck (img : List Byte) : Nat := (crc (img.take (coveredLength img))).toNat

/-- The stored check (R21). -/
def storedCheck (img : List Byte) : Nat := imageWord img 0xB0

/-- The per-slot output of the image's class; absent when the class is unknown (R7, R125). -/
def slotOutput (img : List Byte) : Option SlotOutput :=
  match modClass img with
  | some .plain => some (.rankSwap (rankSwap img))
  | some .buffered => some (.drives (drives img))
  | none => none

/-- The decoded values a resolution copies (R107). -/
def decodeImage (img : List Byte) : Decoded :=
  { kind := memKind img, cls := modClass img, width := dataWidth img, times := times img, latencies := latencyList img
    refreshBase := refreshBase img, extRange := extRange img, extNative := extNative img, budget := budget img
    output := slotOutput img }

end Sys2Proof.Machine
end

