-- ==== Sys2Proof/Machine/Validator.lean ====
section
/-! DEFINITION. The Descriptor Validator: the checks of R24 in their order, the fault list, the classification, the key. -/

namespace Sys2Proof.Machine

/-- One fault when a condition holds, none otherwise. -/
def faultIf (found : Bool) (f : ImageFault) : List ImageFault := if found then [f] else []

/-- R27. -/
def checkCrc (img : List Byte) : List ImageFault := faultIf (computedCheck img != storedCheck img) .crcMismatch

/-- R28. -/
def checkFormat (img : List Byte) : List ImageFault :=
  faultIf (majorRevision img != 1) .formatMajor ++ faultIf (memKind img).isNone .kindUnknown ++
    faultIf (modClass img).isNone .classUnknown

/-- R29. -/
def checkOrganisation (img : List Byte) : List ImageFault :=
  faultIf (dataWidth img).isNone .widthUnknown ++ faultIf (rankCount img).isNone .ranksUnknown

/-- R30 and R31: with an unknown grain the time checks are skipped. -/
def checkTimes (img : List Byte) : List ImageFault :=
  match times img with
  | none => [.grainUnknown]
  | some t =>
    (timeParams.filter fun p => timeOf t p ≤ 0).map ImageFault.timeNotPositive ++
      faultIf (t.sper < t.fper) .periodOrder ++ faultIf (t.cyc < t.hld + t.cls) .cycleShort

/-- Every entry is greater than the one before it (R32, R99). -/
def strictlyAscending : List Nat → Bool
  | a :: b :: rest => a < b && strictlyAscending (b :: rest)
  | _ => true

/-- The latency list passes the check of R32. -/
def latenciesPass : Option (List Nat) → Bool
  | none => false
  | some ls => !ls.isEmpty && ls.all (fun l => 4 ≤ l && l ≤ 40) && strictlyAscending ls

/-- R32. -/
def checkLatencies (img : List Byte) : List ImageFault := faultIf (!latenciesPass (latencyList img)) .latencyList

/-- R33. -/
def checkRefresh (img : List Byte) : List ImageFault :=
  faultIf (refreshBase img < 20 || 400 < refreshBase img) .refreshRange ++
    faultIf (extNative img && !extRange img) .thermalFlags

/-- R34. -/
def checkBudget (img : List Byte) : List ImageFault := faultIf (budget img).isNone .budgetCode

/-- R35: the BUFFERED checks. -/
def checkBuffered (img : List Byte) : List ImageFault :=
  if modClass img = some .buffered then
    faultIf (!bufferKindKnown img) .bufferKind ++
      ([SignalGroup.command, .control, .clockA, .clockB].filter fun g => (driveOf (drives img) g).isNone).map
        ImageFault.driveLevel
  else []

/-- The maker checks of R36. -/
def checkMakers (img : List Byte) : List ImageFault :=
  faultIf (!bankWellFormed (makerBank img)) (.makerParity .module) ++
    faultIf (modClass img == some .buffered && !bankWellFormed (bufferBank img)) (.makerParity .buffer)

/-- The date checks of R36. -/
def checkDates (img : List Byte) : List ImageFault :=
  faultIf (!bcdDigits (yearByte img)) (.dateBcd .year) ++
    faultIf (!bcdDigits (weekByte img) || bcdValue (weekByte img) < 1 || 53 < bcdValue (weekByte img)) (.dateBcd .week)

/-- The text check of R36: at most one fault, at the first character outside the set. -/
def checkText (img : List Byte) : List ImageFault :=
  match (partText img).findIdx? fun c => !textAccepted c with
  | some i => [.textChar i]
  | none => []

/-- All the faults the checks find, in the order of R24. -/
def imageFaults (img : List Byte) : List ImageFault :=
  checkCrc img ++ checkFormat img ++ checkOrganisation img ++ checkTimes img ++ checkLatencies img ++ checkRefresh img ++
    checkBudget img ++ checkBuffered img ++ checkMakers img ++ checkDates img ++ checkText img

/-- The classification by all the faults found, listed or not (R26). -/
def classify (found : List ImageFault) : SlotState :=
  if found.any fun f => faultFamily f == .content then .unusable
  else if found.any fun f => faultFamily f == .integrity then .suspect
  else .valid

/-- The Descriptor Validator (R23): the first eight faults, the `more` flag (R25), the classification (R26), the key (R20). -/
def validate (img : List Byte) : Verdict :=
  { faults := (imageFaults img).take Config.maxListedFaults
    more := Config.maxListedFaults < (imageFaults img).length
    classification := classify (imageFaults img)
    key := identityKey img }

end Sys2Proof.Machine
end

