-- ==== Sys2Proof/Machine/Resolution.lean ====
section
/-! DEFINITION. The resolution procedure (R111 to R128): a function of the working record alone (R108). Times are exact
integers in ps. A ready slot's values are all decoded and in range (R3, R112); where a function below needs a value of a copy
that holds none it reads a fixed default, which no slot copy taken from a ready slot can reach (log 15). -/

namespace Sys2Proof.Machine

/-- Readiness by state, clash and accept_suspect (R40). -/
def readyFor (acceptSuspect : Bool) (st : SlotState) (clash : Bool) : Bool :=
  match st with
  | .valid => !clash || acceptSuspect
  | .suspect => acceptSuspect
  | .unusable => false
  | .unreadable => false
  | .reading => false
  | .settling => false
  | .empty => false

/-- A failure that names a slot. -/
def failAt (r : FailureReason) (c : SlotCopy) : Failure := { reason := r, slot := some c.slot, param := none }

/-- A failure that names nothing. -/
def failPlain (r : FailureReason) : Failure := { reason := r, slot := none, param := none }

/-- The first copy that fails a test, as a failure naming its slot. Copies stand in ascending slot order (R112). -/
def firstFailing (cs : List SlotCopy) (bad : SlotCopy → Bool) (r : FailureReason) : Option Failure :=
  (cs.find? bad).map (failAt r)

/-- The kind, class and width of a copy. -/
def copyKind (c : SlotCopy) : Option MemKind := c.decoded.bind Decoded.kind
def copyClass (c : SlotCopy) : Option ModClass := c.decoded.bind Decoded.cls
def copyWidth (c : SlotCopy) : Option Width := c.decoded.bind Decoded.width

/-- The budget of a copy. -/
def copyBudget (c : SlotCopy) : Option Budget := c.decoded.bind Decoded.budget

/-- The latency list of a copy. -/
def copyLatencies (c : SlotCopy) : List Nat := (c.decoded.bind Decoded.latencies).getD []

/-- The decoded time of a copy. -/
def copyTime (p : Param) (c : SlotCopy) : Int := ((c.decoded.bind Decoded.times).map fun t => timeOf t p).getD 0

/-- EXT_RANGE and EXT_NATIVE of a copy, and its refresh interval base. -/
def copyExtRange (c : SlotCopy) : Bool := (c.decoded.map Decoded.extRange).getD false
def copyExtNative (c : SlotCopy) : Bool := (c.decoded.map Decoded.extNative).getD false
def copyRefreshBase (c : SlotCopy) : Nat := (c.decoded.map Decoded.refreshBase).getD 0

/-- Some copy differs from the first in a value (R113). -/
def differsFromFirst {α : Type} [DecidableEq α] (f : SlotCopy → α) (cs : List SlotCopy) (c : SlotCopy) : Bool :=
  match cs with
  | [] => false
  | first :: _ => f c != f first

/-- The common width differs from the expected one, unless that is ANY (R113). -/
def widthMismatch (w : Work) : Bool :=
  match w.target.expectedWidth, w.copies with
  | some e, first :: _ => copyWidth first != some e
  | some _, [] => false
  | none, _ => false

/-- Step 1: readiness, then kind, class, width, and width against the target (R112, R113). -/
def combineFailure (w : Work) : Option Failure :=
  (firstFailing w.copies (fun c => !readyFor w.request.acceptSuspect c.state c.clash) .notReady)
  <|> (firstFailing w.copies (differsFromFirst copyKind w.copies) .mixedKind)
  <|> (firstFailing w.copies (differsFromFirst copyClass w.copies) .mixedClass)
  <|> (firstFailing w.copies (differsFromFirst copyWidth w.copies) .mixedWidth)
  <|> (if widthMismatch w then some (failPlain .widthMismatch) else none)

/-- The override value of a parameter, where the list holds one (R114). -/
def overrideOf (os : List Override) (p : Param) : Option Nat := (os.find? fun o => o.param == p).map Override.value

/-- Step 2: a slot's effective time of an overridable parameter (R114). -/
def effectiveOf (p : Param) (c : SlotCopy) : Int :=
  match overrideOf c.overrides p with
  | some v => v
  | none => copyTime p c

/-- The greatest of the numbers a function gives over a list. -/
def greatest {α : Type} (f : α → Int) : List α → Int
  | [] => 0
  | a :: as => as.foldl (fun m x => max m (f x)) (f a)

/-- The least of the numbers a function gives over a list. -/
def least {α : Type} (f : α → Int) : List α → Int
  | [] => 0
  | a :: as => as.foldl (fun m x => min m (f x)) (f a)

/-- Step 2: the set's largest time of a parameter (R114). -/
def largestTime (w : Work) (p : Param) : Int := greatest (effectiveOf p) w.copies

/-- Step 3: the hot rating (R115). -/
def hotFailure (w : Work) : Option Failure :=
  if w.request.hot then firstFailing w.copies (fun c => !copyExtRange c) .notRatedHot else none

/-- Step 3: a slot's effective refresh time, halved for a hot resolution of a slot without EXT_NATIVE (R115). -/
def refreshTime (hot : Bool) (c : SlotCopy) : Int :=
  copyRefreshBase c * (if hot && !copyExtNative c then 25000 else 50000)

/-- The low bound of the period window (R116). -/
def windowLow (w : Work) : Int := max (w.target.periodMin : Int) (greatest (copyTime .fper) w.copies)

/-- The high bound of the period window (R116). -/
def windowHigh (w : Work) : Int := min (w.target.periodMax : Int) (least (copyTime .sper) w.copies)

/-- A period lies in the window, bounds included (R116). -/
def inWindow (w : Work) (p : Nat) : Bool := windowLow w ≤ p && p ≤ windowHigh w

/-- The latencies every slot supports, within the target's range (R119). -/
def allowedLatencies (w : Work) : List Nat :=
  match w.copies with
  | [] => []
  | first :: _ =>
    (copyLatencies first).filter fun l =>
      w.copies.all (fun c => (copyLatencies c).contains l) && w.target.latencyMin ≤ l && l ≤ w.target.latencyMax

/-- A latency covers the access time at a period (R119). -/
def coversAccess (w : Work) (p l : Nat) : Bool := largestTime w .acc - w.target.allowance ≤ (l * p : Nat)

/-- Step 5: the smallest allowed latency that covers the access time at a period (R119). -/
def latencyAt (w : Work) (p : Nat) : Option Nat := ((allowedLatencies w).filter (coversAccess w p)).min?

/-- The first candidate at which a latency exists, with it (R117). -/
def firstWithLatency (w : Work) : List Nat → Option (Nat × Nat)
  | [] => none
  | p :: ps =>
    match latencyAt w p with
    | some l => some (p, l)
    | none => firstWithLatency w ps

/-- The candidates of a FASTEST request: the ladder copy's entries in the window (R117). -/
def candidates (w : Work) : List Nat := (w.ladder.getD []).filter (inWindow w)

/-- Step 4: the period and the latency, or the reason there is none (R117, R118). -/
def choosePeriod (w : Work) : Except FailureReason (Nat × Nat) :=
  match w.request.mode with
  | .fastest =>
    if (candidates w).isEmpty then .error .noPeriod
    else
      match firstWithLatency w (candidates w) with
      | some r => .ok r
      | none => .error .noLatency
  | .fixed p =>
    if inWindow w p then
      match latencyAt w p with
      | some l => .ok (p, l)
      | none => .error .noLatency
    else .error .periodOutOfRange

/-- The raw count of a time at a period: rounded up to a whole count, and 1 when nothing is left (R120). -/
def rawCount (time : Int) (p : Nat) : Nat := if 0 < time then (time.toNat + p - 1) / p else 1

/-- The clock count of a parameter: allowance off, rounded up, floor applied (R120). -/
def clockCount (w : Work) (p : Nat) (floor : Nat) (q : Param) : Nat :=
  max (rawCount (largestTime w q - w.target.allowance) p) floor

/-- Step 6 before the fix-up: the nine counts (R120). -/
def plainCounts (w : Work) (p : Nat) : Nine Nat :=
  let f := w.target.floors
  { opn := clockCount w p f.opn .opn, cls := clockCount w p f.cls .cls, hld := clockCount w p f.hld .hld
    cyc := clockCount w p f.cyc .cyc, rfr := clockCount w p f.rfr .rfr, trn := clockCount w p f.trn .trn
    rcl := clockCount w p f.rcl .rcl, wrc := clockCount w p f.wrc .wrc, win := clockCount w p f.win .win }

/-- The cycle fix-up: CYC is raised to HLD plus CLS where it is less (R121). -/
def cycleFixUp (c : Nine Nat) : Nine Nat := { c with cyc := max c.cyc (c.hld + c.cls) }

/-- The nine counts with their parameters, in the order of R121. -/
def countList (c : Nine Nat) : List (Param × Nat) :=
  [(.opn, c.opn), (.cls, c.cls), (.hld, c.hld), (.cyc, c.cyc), (.rfr, c.rfr), (.trn, c.trn), (.rcl, c.rcl), (.wrc, c.wrc),
    (.win, c.win)]

/-- The first count above 4095 (R121). -/
def countOverflow (c : Nine Nat) : Option Param := ((countList c).find? fun q => 4095 < q.2).map Prod.fst

/-- Step 7: the refresh interval, rounded down (R122). -/
def refreshInterval (w : Work) (p : Nat) : Nat := (least (refreshTime w.request.hot) w.copies).toNat / p

/-- The numeric budgets of the set (R123). -/
def numericBudgets (cs : List SlotCopy) : List (Nat × Nat) :=
  cs.filterMap fun c =>
    match copyBudget c with
    | some (.numeric count win) => some (count, win)
    | some .untested => none
    | some .unlimited => none
    | none => none

/-- Step 8: the merged budget: the smallest count with the longest window, or UNLIMITED (R123). -/
def mergedBudget (cs : List SlotCopy) : ProfileBudget :=
  match ((numericBudgets cs).map Prod.fst).min?, ((numericBudgets cs).map Prod.snd).max? with
  | some count, some win => .limited count win
  | some _, none => .unlimited
  | none, _ => .unlimited

/-- A copy's budget is UNTESTED. -/
def untested (c : SlotCopy) : Bool := copyBudget c == some .untested

/-- Step 8: BUDGET_UNKNOWN under require_budget (R124). -/
def budgetFailure (w : Work) : Option Failure :=
  if w.target.requireBudget then firstFailing w.copies untested .budgetUnknown else none

/-- Step 9: the per-slot outputs (R125). -/
def slotOutputs (cs : List SlotCopy) : List (SlotNo × SlotOutput) :=
  cs.filterMap fun c => (c.decoded.bind Decoded.output).map fun o => (c.slot, o)

/-- Step 9: the suspect flag (R126). -/
def suspectFlag (cs : List SlotCopy) : Bool := cs.any fun c => c.state == .suspect || c.clash

/-- The class common to the set (R113). -/
def commonClass (cs : List SlotCopy) : ModClass := (cs.head?.bind copyClass).getD .plain

/-- Steps 6 to 9 at the chosen period and latency (R120 to R127). -/
def buildProfile (w : Work) (p l : Nat) : Outcome :=
  let counts := cycleFixUp (plainCounts w p)
  match countOverflow counts with
  | some q => .failure { reason := .countOverflow, slot := none, param := some q }
  | none =>
    let refresh := refreshInterval w p
    if refresh < 1 || 65535 < refresh then
      .failure { reason := .countOverflow, slot := none, param := some .refresh }
    else
      match budgetFailure w with
      | some f => .failure f
      | none =>
        .result
          { period := p, latency := l, counts := counts, refresh := refresh, budget := mergedBudget w.copies
            unknown := w.copies.any untested, suspect := suspectFlag w.copies, cls := commonClass w.copies
            outputs := slotOutputs w.copies }

/-- The whole resolution: the steps in their order, the first failure ending the work (R111). -/
def resolveWork (w : Work) : Outcome :=
  match combineFailure w with
  | some f => .failure f
  | none =>
    match hotFailure w with
    | some f => .failure f
    | none =>
      match choosePeriod w with
      | .error r => .failure (failPlain r)
      | .ok (p, l) => buildProfile w p l

end Sys2Proof.Machine
end

