-- ==== Sys2Proof/Machine/Defaults.lean ====
section
/-! DEFINITION. The values the blocks hold after a line or full reset (R41, R92, R93, R99, R102, R166). -/

namespace Sys2Proof.Machine

/-- A slot record after a line or full reset, before the presence lines are sampled (R41). -/
def slotReset : Slot :=
  { state := .empty, present := false, gen := 0, image := none, faults := [], more := false, key := none, clash := []
    cause := none, overrides := [], settle := none }

/-- The receiver with no frame in progress: HUNT, an empty buffer, the gap timer stopped (R152, R154, R166). No rule
gives the count of bytes still expected after a reset or in HUNT; the 0 is the model's choice (log 23). -/
def receiverIdle : Receiver :=
  { phase := .hunt, expected := 0, buffer := [], gapRunning := false }

/-- The Target Record's defaults (R93). -/
def targetDefault : Target :=
  { periodMin := 750, periodMax := 3000, latencyMin := 5, latencyMax := 24
    floors := { opn := 0, cls := 0, hld := 0, cyc := 0, rfr := 0, trn := 4, rcl := 4, wrc := 0, win := 0 }
    allowance := 0, expectedWidth := none, requireBudget := false }

/-- The Period Ladder's defaults (R99). -/
def ladderDefault : List Nat := [750, 833, 938, 1071, 1250, 1500, 1875, 2500]

/-- The configuration's defaults (R102). -/
def configDefault : Configuration :=
  { settleMs := 40, busSpeed := .khz100, alertEnable := true }

end Sys2Proof.Machine
end

