-- ==== Sys2Proof/Machine/State.lean ====
section
/-! DEFINITION. The state of the part, block by block, with the queue of commands that wait; its reasons to stop; reset. -/

namespace Sys2Proof.Machine

/-- Faults that stop the machine. There is none: whatever the spec calls an error is a reply, a notice, a slot state, the
bus state FAULTED or a FAILED entry, and the part goes on. -/
inductive Fault where
  deriving DecidableEq, Repr

/-- Refusals. -/
inductive Refusal where
  /-- Raised by `exec` for a command that has no meaning yet; no arm raises it now. Safe: the model stops. -/
  | notModelled (mnemonic : String)
  deriving DecidableEq, Repr

/-- The whole state of the part (the block overview of 00_scope.md). -/
structure State where
  /-- The commands that wait, first in first out (the model's own field, log 1). -/
  pending : List Instr
  /-- RESET_N is low (R166, R208). -/
  resetAsserted : Bool
  /-- The level last taken from each presence line; true is high, a vacant slot (R43). -/
  pres : Eight Bool
  /-- ALERT_N: true is released, false is pulled low (R198). -/
  alertN : Bool
  /-- The RATE level sampled as the last line reset ended: true is 460,800 baud (R150). -/
  rateHigh : Bool
  /-- The receiver (R152). -/
  rx : Receiver
  /-- The Request Inbox, in the order the requests were taken (R159). -/
  inbox : List Outstanding
  /-- The transmit order, oldest reply first (R156). -/
  tx : List Reply
  /-- The reply being sent on TXD (R161). -/
  sending : Option Reply
  /-- CLOSING, between a RESET FULL and the moment its OK has left (R165). -/
  closing : Bool
  /-- The eight slot records (R41). -/
  slots : Eight Slot
  /-- The bus state (R65). -/
  bus : BusState
  /-- The Job Queue, oldest first (R70). -/
  jobs : List Job
  /-- The job in flight (R70). -/
  inFlight : Option InFlight
  /-- The bus clock of the job or recovery that runs or ran last (R66). -/
  lineSpeed : BusSpeed
  /-- Pulses sent by the recovery that runs or ran last (R67, R80); kept between recoveries, and 0 after a line or full reset,
  by the model's choice (log 11). -/
  pulses : Nat
  /-- The configuration in force (R102). -/
  config : Configuration
  /-- The Target Record in force (R93). -/
  target : Target
  /-- The target generation (R94). -/
  targetGen : Word16
  /-- The Period Ladder in force (R99). -/
  ladder : List Nat
  /-- The Resolver: `none` is IDLE, otherwise WORKING with its working record (R105). -/
  work : Option Work
  /-- The profile entries that are not FREE, oldest first (R130, R133, log 6). -/
  entries : List Entry
  /-- The handle counter (R132). -/
  nextHandle : Byte
  /-- The creation counter (R133). -/
  nextCreation : BitVec 32
  /-- The Notice Queue, front first (R195). -/
  notices : List Notice
  /-- The sequence counter (R194). -/
  nextSeq : Word16
  deriving DecidableEq, Repr

/-- What a command answers. -/
abbrev Answer := Host.Outcome State Fault Refusal

/-- The part with its reset line asserted: every block at its line-reset values (R41, R92, R104, R149, R166, R201), ALERT_N
released (R199), the lines and RATE not yet sampled (log 2). R92 gives the pulse count no value, since it leaves no job; the 0 is
the model's (log 11), and so is the receiver's count 0 (log 23). LINE_RESET_RELEASE ends the reset. -/
def State.reset : State :=
  { pending := []
    resetAsserted := true
    pres := Eight.ofFn fun _ => Config.resetPresHigh
    alertN := true
    rateHigh := Config.resetRateHigh
    rx := receiverIdle
    inbox := []
    tx := []
    sending := none
    closing := false
    slots := Eight.ofFn fun _ => slotReset
    bus := .idle
    jobs := []
    inFlight := none
    lineSpeed := .khz100
    pulses := 0
    config := configDefault
    target := targetDefault
    targetGen := 0
    ladder := ladderDefault
    work := none
    entries := []
    nextHandle := 1
    nextCreation := 0
    notices := []
    nextSeq := 0 }

end Sys2Proof.Machine
end

