-- ==== Sys2Proof/Machine/Flags.lean ====
section
/-! DEFINITION. The conditions and lines the blocks compute from their state: scan pending, presence of claims, free places,
the applied mark's guard, the alert line, what is on the sideband bus and on TXD. -/

namespace Sys2Proof.Machine

/-! ### The link -/

/-- The receiver takes bytes: not in a line reset and not in CLOSING (R165, R166). -/
def linkOpen (s : State) : Bool := !s.resetAsserted && !s.closing

/-- Free places for replies (R156). -/
def freePlaces (s : State) : Nat := Config.replyPlaces - (s.tx.length + s.inbox.length)

/-- A request outstanding holds the tag (R157). -/
def isOutstanding (s : State) (tag : Byte) : Bool := s.inbox.any fun o => o.tag == tag

/-- The frame being sent on TXD, where one is; otherwise, and while RESET_N is low, TXD is high (R150, R161, R208). -/
def txdFrame (s : State) : Option (List Byte) := if s.resetAsserted then none else s.sending.map replyFrame

/-- The levels of TXD over the reply being sent, one for each bit at the link's rate, its characters back to back; before and
after them, and with no reply being sent, TXD is high (R150, R161). -/
def txdLevels (s : State) : List Bool := ((txdFrame s).getD []).flatMap characterLevels

/-- The rate of the link in baud (R150). -/
def linkBaud (s : State) : Nat := if s.rateHigh then 460800 else 115200

/-! ### Slots and jobs -/

/-- The slot of a job; a RECOVER has none (R67). -/
def slotOfWork : JobWork → Option SlotNo
  | .scan n => some n
  | .moduleRead n _ _ => some n
  | .userWrite n _ _ => some n
  | .recover => none

/-- The job is a SCAN of slot `n`. -/
def isScanOf (n : SlotNo) (j : Job) : Bool := j.work == .scan n

/-- The job is for slot `n`. -/
def isForSlot (n : SlotNo) (j : Job) : Bool := slotOfWork j.work == some n

/-- The job holds no claim (R67). -/
def claimless (j : Job) : Bool := j.tags.isEmpty && !j.presence

/-- A SCAN of slot `n` waits in the Job Queue. -/
def scanWaiting (s : State) (n : SlotNo) : Bool := s.jobs.any (isScanOf n)

/-- Scan pending of slot `n`: a SCAN waits, or is in flight without a stop mark (R41). -/
def scanPending (s : State) (n : SlotNo) : Bool :=
  scanWaiting s n ||
    match s.inFlight with
    | some f => isScanOf n f.job && !f.stopMark
    | none => false

/-- Segments done of a SCAN in flight: sixteen bytes each (R67). -/
def segmentsDone (f : InFlight) : Nat := f.bytesRead.length / 16

/-- The first offset of the page that holds an offset (00_scope.md). -/
def pageStart (off : Nat) : Nat := off / 16 * 16

/-- The transaction the job in flight has on the bus (R66, R74, R76 to R79). -/
def busTransaction (f : InFlight) : Option BusTransaction :=
  match f.activity, f.job.work with
  | .transaction, .scan n => some (.read n f.bytesRead.length 16)
  | .transaction, .moduleRead n off len => some (.read n off len)
  | .transaction, .userWrite n off data =>
    match f.phase with
    | .writing => some (.pageWrite n off data)
    | .readBack => some (.read n (pageStart off) 16)
    | .polling => none
  | .poll, .userWrite n _ _ => some (.poll n)
  | _, _ => none

/-- SCL and SDA under the job in flight: in its waits both are released (R66, R72, R78, R80, R87). -/
def flightLines (f : InFlight) : LineUse :=
  match f.activity with
  | .transaction => ((busTransaction f).map LineUse.transaction).getD .released
  | .poll => ((busTransaction f).map LineUse.transaction).getD .released
  | .retryWait => .released
  | .pollWait => .released
  | .stopCondition => .stopCondition
  | .recovery => .recovery

/-- SCL and SDA: released while RESET_N is low and while neither a job nor a recovery runs (R65, R92, R208). -/
def busLines (s : State) : LineUse :=
  if s.resetAsserted then .released
  else
    match s.inFlight with
    | some f => flightLines f
    | none => if s.bus = .recovering then .recovery else .released

/-- The stuck-bus timer watches the lines: a job is in flight and no recovery runs (R73). -/
def stuckTimerWatches (s : State) : Bool := s.inFlight.isSome && s.bus == .busy

/-- A module is in the slot as far as requests see: neither EMPTY nor SETTLING (R58, R178, R181). -/
def occupied (st : SlotState) : Bool := st != .empty && st != .settling

/-- The classified states (R42). -/
def classified (st : SlotState) : Bool := st == .valid || st == .suspect || st == .unusable

/-! ### Profiles -/

/-- Some entry is applied (R144). -/
def anyApplied (s : State) : Bool := s.entries.any Entry.applied

/-- Slot `n` is in the set of the applied entry (R58, R181). -/
def inAppliedSet (s : State) (n : SlotNo) : Bool := s.entries.any fun e => e.applied && e.request.slots.contains n

/-- The entry is QUEUED. -/
def isQueued (e : Entry) : Bool :=
  match e.state with
  | .queued _ => true
  | .building _ _ => false
  | .valid _ _ => false
  | .stale _ _ => false
  | .failed _ _ => false

/-- The entry is BUILDING. -/
def isBuilding (e : Entry) : Bool :=
  match e.state with
  | .building _ _ => true
  | .queued _ => false
  | .valid _ _ => false
  | .stale _ _ => false
  | .failed _ _ => false

/-- The entry is VALID. -/
def isValid (e : Entry) : Bool :=
  match e.state with
  | .valid _ _ => true
  | .queued _ => false
  | .building _ _ => false
  | .stale _ _ => false
  | .failed _ _ => false

/-- The request tag, present in QUEUED and BUILDING (R130). -/
def requestTag (e : Entry) : Option Byte :=
  match e.state with
  | .queued t => some t
  | .building t _ => some t
  | .valid _ _ => none
  | .stale _ _ => none
  | .failed _ _ => none

/-- Eviction may take the entry: STALE or FAILED, and not applied (R135). -/
def evictable (e : Entry) : Bool :=
  !e.applied &&
    match e.state with
    | .stale _ _ => true
    | .failed _ _ => true
    | .queued _ => false
    | .building _ _ => false
    | .valid _ _ => false

/-- The resolve order: the QUEUED entries, oldest allocation first (R136). -/
def resolveOrder (s : State) : List Entry := s.entries.filter isQueued

/-- The number of FREE entries (R147). -/
def freeEntries (s : State) : Nat := Config.profileEntries - s.entries.length

/-- The entry that holds a handle (R142). -/
def entryAt (s : State) (h : Byte) : Option Entry := s.entries.find? fun e => e.handle == h

/-- The entry whose request tag is `tag` (R146). -/
def entryOfTag (s : State) (tag : Byte) : Option Entry := s.entries.find? fun e => requestTag e == some tag

/-! ### Notices -/

/-- The record is the NOTICES_LOST entry. -/
def isLost (n : Notice) : Bool :=
  match n.body with
  | .noticesLost _ => true
  | _ => false

/-- The ordinary entries of the queue (R195). -/
def ordinaryCount (ns : List Notice) : Nat := ns.countP fun n => !isLost n

/-- The level ALERT_N must have: pulled low while the queue holds something and alerts are on (R198). -/
def alertLevel (notices : List Notice) (enabled : Bool) : Bool := notices.isEmpty || !enabled

end Sys2Proof.Machine
end

