-- ==== Sys2Proof/Machine/Operands.lean ====
section
/-! DEFINITION. The arguments of requests, read from payload bytes: exact lengths (R167, R205), codes (R204) and ranges.
`none` is a payload the owner refuses with BAD_ARGUMENT. -/

namespace Sys2Proof.Machine

/-- A slot number, 0 to 7. -/
def slotArg (b : Byte) : Option SlotNo := if h : b.toNat < 8 then some ⟨b.toNat, h⟩ else none

/-- A boolean: 0 or 1 (R202). -/
def boolArg (b : Byte) : Option Bool :=
  match b.toNat with
  | 0 => some false
  | 1 => some true
  | _ => none

/-- A bus speed code (R204). -/
def busSpeedArg (b : Byte) : Option BusSpeed :=
  match b.toNat with
  | 0 => some .khz100
  | 1 => some .khz400
  | _ => none

/-- An expected width byte (R204): `some none` is ANY. -/
def expectedWidthArg (b : Byte) : Option (Option Width) :=
  match b.toNat with
  | 0 => some none
  | 32 => some (some .w32)
  | 64 => some (some .w64)
  | 72 => some (some .w72)
  | _ => none

/-- A view code (R204). -/
def viewArg (b : Byte) : Option View :=
  match b.toNat with
  | 0 => some .summary
  | 1 => some .faults
  | 2 => some .timings
  | 3 => some .cls
  | 4 => some .identity
  | 5 => some .overrides
  | _ => none

/-- An overridable parameter's code, 0x03 to 0x0C (R204). -/
def overridableArg (b : Byte) : Option Param := overridableParams.find? fun p => paramCode p == b

/-- A settle time: 10 to 250 ms in steps of 10 (R102). -/
def settleTimeOk (ms : Nat) : Bool := 10 ≤ ms && ms ≤ 250 && ms % 10 == 0

/-- A clock period of the ladder or of a FIXED request: 300 to 20,000 ps (R99, R134). -/
def periodOk (p : Nat) : Bool := 300 ≤ p && p ≤ 20000

/-- CONFIGURE (R102, R170). -/
def configArg (payload : List Byte) : Option Configuration :=
  match payload with
  | [ms, speed, alert] =>
    match busSpeedArg speed, boolArg alert with
    | some sp, some al =>
      if settleTimeOk ms.toNat then some { settleMs := ms.toNat, busSpeed := sp, alertEnable := al } else none
    | _, _ => none
  | _ => none

/-- The nine floors of a list of nine bytes. -/
def floorsOf (f : Nine Byte) : Nine Nat :=
  { opn := f.opn.toNat, cls := f.cls.toNat, hld := f.hld.toNat, cyc := f.cyc.toNat, rfr := f.rfr.toNat
    trn := f.trn.toNat, rcl := f.rcl.toNat, wrc := f.wrc.toNat, win := f.win.toNat }

/-- The nine things as a list, in the order of R93. -/
def nineList {α : Type} (f : Nine α) : List α := [f.opn, f.cls, f.hld, f.cyc, f.rfr, f.trn, f.rcl, f.wrc, f.win]

/-- Every field of a Target Record is in its range (R93, R95). -/
def targetOk (t : Target) : Bool :=
  300 ≤ t.periodMin && t.periodMin ≤ 20000 && t.periodMin ≤ t.periodMax && t.periodMax ≤ 20000 &&
  4 ≤ t.latencyMin && t.latencyMin ≤ t.latencyMax && t.latencyMax ≤ 40 &&
  (nineList t.floors).all (fun f => f ≤ 15) && t.allowance ≤ 20

/-- SET TARGET: the 18 bytes of a Target Record (R95, R205). -/
def targetArg (payload : List Byte) : Option Target :=
  match payload with
  | [p0, p1, q0, q1, lmin, lmax, f1, f2, f3, f4, f5, f6, f7, f8, f9, al, width, req] =>
    match expectedWidthArg width, boolArg req with
    | some w, some r =>
      let t : Target :=
        { periodMin := ofLe2 p0 p1, periodMax := ofLe2 q0 q1, latencyMin := lmin.toNat, latencyMax := lmax.toNat
          floors :=
            floorsOf { opn := f1, cls := f2, hld := f3, cyc := f4, rfr := f5, trn := f6, rcl := f7, wrc := f8, win := f9 }
          allowance := al.toNat, expectedWidth := w, requireBudget := r }
      if targetOk t then some t else none
    | _, _ => none
  | _ => none

/-- Two-byte values one after another; an odd byte at the end is no value. -/
def words : List Byte → List Nat
  | b0 :: b1 :: rest => ofLe2 b0 b1 :: words rest
  | _ => []

/-- A ladder the part accepts: 1 to 12 periods in range, strictly ascending (R99, R100). -/
def ladderOk (ps : List Nat) : Bool :=
  1 ≤ ps.length && ps.length ≤ Config.maxLadder && ps.all periodOk && strictlyAscending ps

/-- SET LADDER: a count and exactly that many periods (R100, R167). -/
def ladderArg (payload : List Byte) : Option (List Nat) :=
  match payload with
  | n :: rest =>
    if rest.length = 2 * n.toNat then (if ladderOk (words rest) then some (words rest) else none) else none
  | [] => none

/-- GET SLOT (R174). -/
def slotViewArg (payload : List Byte) : Option (SlotNo × View) :=
  match payload with
  | [sl, vw] =>
    match slotArg sl, viewArg vw with
    | some n, some v => some (n, v)
    | _, _ => none
  | _ => none

/-- READ IMAGE and READ MODULE: slot, offset and length (R177, R178). -/
def rangeArg (payload : List Byte) : Option (SlotNo × Nat × Nat) :=
  match payload with
  | [sl, off, len] =>
    match slotArg sl with
    | some n =>
      if 1 ≤ len.toNat ∧ len.toNat ≤ 64 ∧ off.toNat + len.toNat ≤ 256 then some (n, off.toNat, len.toNat) else none
    | none => none
  | _ => none

/-- WRITE USER, check 1: the length, the slot, the count (R179). -/
def writeArg (payload : List Byte) : Option (SlotNo × Nat × List Byte) :=
  match payload with
  | sl :: off :: cnt :: data =>
    match slotArg sl with
    | some n =>
      if data.length = cnt.toNat ∧ 1 ≤ cnt.toNat ∧ cnt.toNat ≤ 16 then some (n, off.toNat, data) else none
    | none => none
  | _ => none

/-- WRITE USER, check 3: within 256 bytes and within one page (R179). -/
def writeFits (off len : Nat) : Bool := off + len ≤ 256 && off / 16 == (off + len - 1) / 16

/-- RESCAN: slot and force (R181). -/
def rescanArg (payload : List Byte) : Option (SlotNo × Bool) :=
  match payload with
  | [sl, fc] =>
    match slotArg sl, boolArg fc with
    | some n, some f => some (n, f)
    | _, _ => none
  | _ => none

/-- SET OVERRIDE: slot, overridable parameter, value 1 to 1,000,000 ps (R58). -/
def overrideArg (payload : List Byte) : Option (SlotNo × Override) :=
  match payload with
  | [sl, pc, v0, v1, v2] =>
    match slotArg sl, overridableArg pc with
    | some n, some p =>
      if 1 ≤ ofLe3 v0 v1 v2 ∧ ofLe3 v0 v1 v2 ≤ 1000000 then some (n, { param := p, value := ofLe3 v0 v1 v2 }) else none
    | _, _ => none
  | _ => none

/-- CLEAR OVERRIDES: a slot (R59). -/
def oneSlotArg (payload : List Byte) : Option SlotNo :=
  match payload with
  | [sl] => slotArg sl
  | _ => none

/-- One byte: a handle, a tag (R205). -/
def oneByteArg (payload : List Byte) : Option Byte :=
  match payload with
  | [b] => some b
  | _ => none

/-- FETCH NOTICES: a maximum from 1 to 6 (R187). -/
def maximumArg (payload : List Byte) : Option Nat :=
  match payload with
  | [m] => if 1 ≤ m.toNat ∧ m.toNat ≤ 6 then some m.toNat else none
  | _ => none

/-- Slot numbers, each 0 to 7. -/
def slotsArg : List Byte → Option (List SlotNo)
  | [] => some []
  | b :: bs =>
    match slotArg b, slotsArg bs with
    | some n, some ns => some (n :: ns)
    | _, _ => none

/-- A set of slots in ascending order (00_scope.md, R134). -/
def ascending (ns : List SlotNo) : List SlotNo := allSlots.filter ns.contains

/-- A RESOLVE's mode with its period; the period of FASTEST is not examined (R134, R184). -/
def modeArg (mode : Byte) (period : Nat) : Option ResolveMode :=
  match mode.toNat with
  | 0 => some .fastest
  | 1 => if periodOk period then some (.fixed period) else none
  | _ => none

/-- RESOLVE: a count, that many distinct slots, mode, period, hot, accept_suspect (R134, R184, R205). -/
def resolveArg (payload : List Byte) : Option ResolveRequest :=
  match payload with
  | [] => none
  | n :: rest =>
    match rest.drop n.toNat, slotsArg (rest.take n.toNat) with
    | [md, p0, p1, hot, acc], some ns =>
      match modeArg md (ofLe2 p0 p1), boolArg hot, boolArg acc with
      | some m, some h, some a =>
        if 1 ≤ ns.length ∧ ns.length ≤ 8 ∧ ns.Nodup then
          some { slots := ascending ns, mode := m, hot := h, acceptSuspect := a }
        else none
      | _, _, _ => none
    | _, _ => none

/-- RESET: the scope; `some false` is SESSION, `some true` is FULL (R190, R204). -/
def scopeArg (payload : List Byte) : Option Bool :=
  match payload with
  | [sc] => boolArg sc
  | _ => none

end Sys2Proof.Machine
end

