-- ==== Sys2Proof/Machine/Views.lean ====
section
/-! DEFINITION. Reply payloads: the views of slots, profiles and Settings, in the layouts of R206. -/

namespace Sys2Proof.Machine

/-- The configuration, as CONFIGURE carries it (R206). -/
def configPayload (c : Configuration) : List Byte := [byte c.settleMs, busSpeedCode c.busSpeed, boolByte c.alertEnable]

/-- INFO (R169, R206). -/
def infoPayload (s : State) : List Byte :=
  le2 partCode ++ [byte partRevision] ++ 
    [8, byte Config.maxWaitingJobs, byte Config.profileEntries, byte Config.maxLadder, byte Config.maxNotices,
      byte Config.maxOutstanding] ++ configPayload s.config ++
    [boolByte s.rateHigh, busStateCode s.bus]

/-- The Target Record, as SET TARGET carries it (R205). -/
def targetPayload (t : Target) : List Byte :=
  le2 t.periodMin ++ le2 t.periodMax ++ [byte t.latencyMin, byte t.latencyMax] ++ (nineList t.floors).map byte ++
    [byte t.allowance, expectedWidthCode t.expectedWidth, boolByte t.requireBudget]

/-- The ladder, as SET LADDER carries it (R205). -/
def ladderPayload (ps : List Nat) : List Byte := byte ps.length :: ps.flatMap le2

/-- A slot's five bytes in LIST SLOTS (R173, R206). -/
def slotListing (s : State) (n : SlotNo) : List Byte :=
  let r := s.slots.get n
  [slotStateCode r.state] ++ le2 r.gen.toNat ++
    [boolByte (scanPending s n) ||| (boolByte (!r.clash.isEmpty) <<< 1), byte r.overrides.length]

/-- LIST SLOTS (R173, R206). -/
def listSlotsPayload (s : State) : List Byte := allSlots.flatMap (slotListing s)

/-- A width's byte, 0xFF when unknown (R206). -/
def widthByte : Option Width → Byte
  | some .w32 => 32
  | some .w64 => 64
  | some .w72 => 72
  | none => 0xFF

/-- The decoded part of SUMMARY (R175, R206). -/
def summaryDecoded (img : List Byte) : List Byte :=
  [imageByte img 0x02, ((modClass img).map classCode).getD 0xFF, widthByte (dataWidth img),
    ((rankCount img).map byte).getD 0xFF, byte (majorRevision img), byte (minorRevision img)]

/-- SUMMARY (R175, R206). -/
def summaryView (s : State) (n : SlotNo) : List Byte :=
  let r := s.slots.get n
  [slotStateCode r.state, boolByte r.present] ++ le2 r.gen.toNat ++
    [boolByte (scanPending s n), causeCode r.cause, byte r.overrides.length, boolByte (!r.clash.isEmpty),
      boolByte r.image.isSome] ++
    match r.image with
    | some c => summaryDecoded c.bytes
    | none => List.replicate 6 0

/-- FAULTS (R176, R206). -/
def faultsView (r : Slot) (img : List Byte) : List Byte :=
  [byte r.faults.length, boolByte r.more, boolByte (identityCovered img)] ++ le2 (storedCheck img) ++
    le2 (computedCheck img) ++ r.faults.flatMap fun f => [faultCode f, faultDetail f]

/-- The grain byte, in units of 50 ps; 0 is unknown (R206). -/
def grainByte (img : List Byte) : Byte := byte ((grain img).getD 0 / 50)

/-- One time field in the time block: coarse at its width, fine where it has one, effective time (R206). -/
def timeField (img : List Byte) (g : Nat) (p : Param) : List Byte :=
  (if coarseIsByte p then [byte (coarse img p)] else le2 (coarse img p)) ++
    (match fineOffset p with
    | some off => [imageByte img off]
    | none => []) ++
    leSigned4 (effectiveTime img g p)

/-- The time block, omitted when the grain is unknown (R206). -/
def timeBlock (img : List Byte) : List Byte :=
  match grain img with
  | some g => timeParams.flatMap (timeField img g)
  | none => []

/-- The override mask: bit i for the i-th overridable parameter (R206). -/
def overrideMask (os : List Override) : Nat :=
  ((List.range overridableParams.length).map fun i =>
    match overridableParams[i]? with
    | some p => if (overrideOf os p).isSome then 2 ^ i else 0
    | none => 0).sum

/-- The override values, one for each set bit, in bit order (R206). -/
def overrideValues (os : List Override) : List Byte :=
  overridableParams.flatMap fun p =>
    match overrideOf os p with
    | some v => le3 v
    | none => []

/-- The budget's three bytes in TIMINGS: kind, count in units of 100,000, window in units of 1000 (R206). -/
def budgetBytes : Option Budget → List Byte
  | some .untested => [0, 0, 0]
  | some (.numeric count win) => [1, byte (count / 100000), byte (win / 1000)]
  | some .unlimited => [2, 0, 0]
  | none => [3, 0, 0]

/-- TIMINGS (R176, R206). -/
def timingsView (r : Slot) (img : List Byte) : List Byte :=
  [grainByte img] ++ timeBlock img ++ le2 (overrideMask r.overrides) ++ overrideValues r.overrides ++
    [imageByte img 0x0B] ++ window img 0x0C 8 ++ le2 (refreshBase img) ++ le4 (refreshBase img * 50000) ++
    [boolByte (extRange img) ||| (boolByte (extNative img) <<< 1)] ++ budgetBytes (budget img)

/-- A drive level's byte, 0xFF when unknown (R206). -/
def driveByte : Option DriveLevel → Byte
  | some .light => 0
  | some .moderate => 1
  | some .strong => 2
  | none => 0xFF

/-- CLASS (R176, R206). -/
def classView (img : List Byte) : List Byte :=
  imageByte img 0x03 ::
    match modClass img with
    | some .plain => [heightCode img, thicknessCode img, boolByte (rankSwap img)]
    | some .buffered =>
      [heightCode img, thicknessCode img, bufferBank img, imageByte img 0x53, imageByte img 0x54, imageByte img 0x55,
        driveByte (drives img).command, driveByte (drives img).control, driveByte (drives img).clockA,
        driveByte (drives img).clockB]
    | none => []

/-- IDENTITY (R176, R206). -/
def identityView (r : Slot) (img : List Byte) : List Byte :=
  [byte (bankNumber (makerBank img)), makerBank img, imageByte img 0x91, imageByte img 0x92, yearByte img, weekByte img] ++
    window img 0x95 4 ++ partText img ++ identityKey img ++ [byte r.clash.length] ++ r.clash.map slotByte

/-- OVERRIDES (R175, R206). -/
def overridesView (r : Slot) : List Byte :=
  byte r.overrides.length :: r.overrides.flatMap fun o => paramCode o.param :: le3 o.value

/-- A view of a slot; `none` is NOT_CACHED, an image view of a slot without a copy (R174). -/
def viewPayload (s : State) (n : SlotNo) (v : View) : Option (List Byte) :=
  let r := s.slots.get n
  match v with
  | .summary => some (summaryView s n)
  | .overrides => some (overridesView r)
  | .faults => r.image.map fun c => faultsView r c.bytes
  | .timings => r.image.map fun c => timingsView r c.bytes
  | .cls => r.image.map fun c => classView c.bytes
  | .identity => r.image.map fun c => identityView r c.bytes

/-- Every page the range touches is marked valid (R177). -/
def rangeValid (c : ImageCopy) (off len : Nat) : Bool :=
  (List.range 16).all fun p => c.marks.getD p false || p < off / 16 || (off + len - 1) / 16 < p

/-- READ IMAGE's bytes; `none` is NOT_CACHED (R177). -/
def imageRange (r : Slot) (off len : Nat) : Option (List Byte) :=
  match r.image with
  | some c => if rangeValid c off len then some (window c.bytes off len) else none
  | none => none

/-- RESCAN's OK: state and generation (R182, R206). -/
def rescanPayload (r : Slot) : List Byte := slotStateCode r.state :: le2 r.gen.toNat

/-- SET OVERRIDE's and CLEAR OVERRIDES' OK: generation and override count (R183, R206). -/
def overridePayload (r : Slot) : List Byte := le2 r.gen.toNat ++ [byte r.overrides.length]

/-- The result record (R206). -/
def resultPayload (p : Profile) : List Byte :=
  le2 p.period ++ [byte p.latency] ++ (nineList p.counts).flatMap le2 ++ le2 p.refresh ++
    (match p.budget with
    | .unlimited => le4 0 ++ le2 0
    | .limited count win => le4 count ++ le2 win) ++
    [boolByte p.unknown ||| (boolByte p.suspect <<< 1), classCode p.cls, byte p.outputs.length] ++
    p.outputs.flatMap fun o => [slotByte o.1, outputByte o.2]

/-- The failure record (R206). -/
def failurePayload (f : Failure) : List Byte := [failureCode f.reason, slotOrAbsent f.slot, paramOrAbsent f.param]

/-- The mode and period of a request, as RESOLVE carries them; FASTEST holds zero for its period (R184, log 13). -/
def modePayload : ResolveMode → List Byte
  | .fastest => 0 :: le2 0
  | .fixed p => 1 :: le2 p

/-- A request, as RESOLVE carries it (R205). -/
def requestPayload (r : ResolveRequest) : List Byte :=
  byte r.slots.length :: r.slots.map slotByte ++ modePayload r.mode ++ [boolByte r.hot, boolByte r.acceptSuspect]

/-- The snapshot part of GET PROFILE when a snapshot is present (R206). -/
def snapshotPayload (sn : Snapshot) : List Byte :=
  1 :: le2 sn.target.toNat ++ sn.gens.flatMap fun g => le2 g.2.toNat

/-- The snapshot, result and failure parts of GET PROFILE (R147, R206). -/
def entryRecords : EntryState → List Byte
  | .queued _ => [0]
  | .building _ sn => snapshotPayload sn
  | .valid sn p => snapshotPayload sn ++ resultPayload p
  | .stale sn p => snapshotPayload sn ++ resultPayload p
  | .failed sn f => snapshotPayload sn ++ failurePayload f

/-- Handle, state, applied mark, creation number and request tag of an entry (R147, R206). -/
def entryListing (e : Entry) : List Byte :=
  [e.handle, entryStateCode e.state, boolByte e.applied] ++ le4 e.creation.toNat ++ [(requestTag e).getD 0]

/-- GET PROFILE (R185, R206). -/
def profilePayload (e : Entry) : List Byte := entryListing e ++ requestPayload e.request ++ entryRecords e.state

/-- LIST PROFILES (R185, R206). -/
def listProfilesPayload (s : State) : List Byte :=
  [byte (freeEntries s), byte s.entries.length] ++ s.entries.flatMap entryListing

/-- FETCH NOTICES (R187, R206). -/
def noticesPayload (ns : List Notice) : List Byte := byte ns.length :: ns.flatMap noticeBytes

end Sys2Proof.Machine
end

