-- ==== Sys2Proof/Machine/Ops.lean ====
section
/-! DEFINITION. The operations the commands share: notices, replies, slot generations and clashes, jobs, profile entries. -/

namespace Sys2Proof.Machine

/-! ### Notices (R194 to R198) -/

/-- ALERT_N follows the queue and alert enable (R198). -/
def updateAlert (s : State) : State := { s with alertN := alertLevel s.notices s.config.alertEnable }

/-- A record at the back of the queue, with the next sequence number (R194). -/
def appendNotice (b : NoticeBody) (s : State) : State :=
  { s with notices := s.notices ++ [{ seq := s.nextSeq, body := b }], nextSeq := s.nextSeq + 1 }

/-- One more loss in a NOTICES_LOST record, up to 255 (R196). -/
def countLoss (n : Notice) : Notice :=
  match n.body with
  | .noticesLost t => { n with body := .noticesLost (min 255 (t + 1)) }
  | _ => n

/-- The intake of a raised notice (R195, R196). -/
def intake (b : NoticeBody) (s : State) : State :=
  if ordinaryCount s.notices < Config.maxOrdinaryNotices then appendNotice b s
  else if s.notices.any isLost then { s with notices := s.notices.map countLoss }
  else appendNotice (.noticesLost 1) s

/-- A notice is raised: its intake, and ALERT_N with it (R195, R198). -/
def raise (b : NoticeBody) (s : State) : State := updateAlert (intake b s)

/-- Notices raised one after another. -/
def raiseAll (bs : List NoticeBody) (s : State) : State := bs.foldl (fun t b => raise b t) s

/-! ### Replies (R156, R159 to R162) -/

/-- A reply enters the transmit order (R161). -/
def place (r : Reply) (s : State) : State := { s with tx := s.tx ++ [r] }

/-- An immediate reply, or a refusal (R158, R168). -/
def answer (tag kind : Byte) (st : Status) (payload : List Byte) (s : State) : State :=
  place { tag := tag, kind := kind, status := st, payload := payload } s

/-- A refusal carries no payload (R168). -/
def refuse (tag kind : Byte) (st : Status) (s : State) : State := answer tag kind st [] s

/-- The outstanding request that holds a tag is replied and leaves the inbox; with no such request nothing is sent (R159, R160). -/
def endRequest (st : Status) (payload : List Byte) (tag : Byte) (s : State) : State :=
  match s.inbox.find? fun o => o.tag == tag with
  | some o => place { tag := tag, kind := o.kind, status := st, payload := payload } { s with inbox := s.inbox.erase o }
  | none => s

/-- Several tags ended alike, in their order (R162). -/
def endTags (st : Status) (payload : List Byte) (tags : List Byte) (s : State) : State :=
  tags.foldl (fun t tag => endRequest st payload tag t) s

/-- A long request is accepted: a record joins the inbox (R158, R159). -/
def joinInbox (tag kind : Byte) (c : Claim) (s : State) : State :=
  { s with inbox := s.inbox ++ [{ tag := tag, kind := kind, claim := c }] }

/-! ### Staleness (R139 to R141) -/

/-- The entry's snapshot holds a slot that `hit` marks. -/
def snapshotHit (hit : SlotNo → Bool) (sn : Snapshot) : Bool := sn.gens.any fun g => hit g.1

/-- A VALID entry whose snapshot holds an incremented slot goes STALE and keeps snapshot and result (R139). -/
def staleEntry (hit : SlotNo → Bool) (e : Entry) : Entry :=
  match e.state with
  | .valid sn p => if snapshotHit hit sn then { e with state := .stale sn p } else e
  | .queued _ => e
  | .building _ _ => e
  | .stale _ _ => e
  | .failed _ _ => e

/-- The notice an entry that goes STALE raises (R140). -/
def staleNotice (hit : SlotNo → Bool) (e : Entry) : Option NoticeBody :=
  match e.state with
  | .valid sn _ =>
    if snapshotHit hit sn then
      if e.applied then (e.request.slots.find? hit).map (NoticeBody.appliedBroken e.handle)
      else some (.profileStale e.handle)
    else none
  | .queued _ => none
  | .building _ _ => none
  | .stale _ _ => none
  | .failed _ _ => none

/-- Every VALID entry whose snapshot holds an incremented slot goes STALE, with its notice, oldest first (R139, R140). -/
def staleSlots (hit : SlotNo → Bool) (s : State) : State :=
  raiseAll (s.entries.filterMap (staleNotice hit)) { s with entries := s.entries.map (staleEntry hit) }

/-- A VALID entry goes STALE at a target change (R96). -/
def staleByTarget (e : Entry) : Entry :=
  match e.state with
  | .valid sn p => { e with state := .stale sn p }
  | .queued _ => e
  | .building _ _ => e
  | .stale _ _ => e
  | .failed _ _ => e

/-- Every VALID entry goes STALE at an accepted SET TARGET, with PROFILE_STALE, oldest first (R96, R140). -/
def staleAll (s : State) : State :=
  raiseAll ((s.entries.filter isValid).map fun e => .profileStale e.handle) { s with entries := s.entries.map staleByTarget }

/-! ### Slot records: generations and clash sets (R38, R39, R61) -/

/-- The clash set of slot `n` among slot records: the other slots with an equal key, ascending (R38). -/
def clashOf (v : Eight Slot) (n : SlotNo) : List SlotNo :=
  match (v.get n).key with
  | none => []
  | some k => allSlots.filter fun m => m != n && (v.get m).key == some k

/-- The clash sets of all slots recomputed (R38). -/
def recomputeClashes (v : Eight Slot) : Eight Slot := Eight.ofFn fun n => { v.get n with clash := clashOf v n }

/-- The generations of the marked slots incremented by one (R61). -/
def bumpGens (hit : SlotNo → Bool) (v : Eight Slot) : Eight Slot :=
  Eight.ofFn fun n => if hit n then { v.get n with gen := (v.get n).gen + 1 } else v.get n

/-- The clash set of slot `n` changed between empty and non-empty (R39). -/
def clashFlipped (before after : Eight Slot) (n : SlotNo) : Bool :=
  (before.get n).clash.isEmpty != (after.get n).clash.isEmpty

/-- The slots whose generation one event increments: those the event increments on its own account, and those whose clash
set it fills or empties; each once (R39, R61). -/
def incremented (own : SlotNo → Bool) (before after : Eight Slot) (n : SlotNo) : Bool :=
  own n || clashFlipped before (recomputeClashes after) n

/-- The slot records after an event that put `changed` in their place: clash sets recomputed, generations incremented. -/
def commitSlots (own : SlotNo → Bool) (changed : Eight Slot) (s : State) : State :=
  { s with slots := bumpGens (incremented own s.slots changed) (recomputeClashes changed) }

/-- A slot event that may change keys: records, clash sets and generations, then the Slot Table's notices, then the
Profile Table's staleness (R141, R193). -/
def slotEvent (own : SlotNo → Bool) (changed : Eight Slot) (bodies : List NoticeBody) (s : State) : State :=
  staleSlots (incremented own s.slots changed) (raiseAll bodies (commitSlots own changed s))

/-- A slot record whose image is discarded, with the fault list, the `more` flag and the key (R48, R53). -/
def discardImage (r : Slot) : Slot := { r with image := none, faults := [], more := false, key := none }

/-- A slot record after a failed scan, before clashes and generation (R53). -/
def failedSlot (c : UnreadableCause) (r : Slot) : Slot :=
  { discardImage r with state := .unreadable, cause := some c }

/-- The scans of some slots fail at one event, in the order given (R53, R54, R82; log 9). -/
def failScans (ns : List SlotNo) (c : UnreadableCause) (s : State) : State :=
  slotEvent (fun n => ns.contains n)
    (Eight.ofFn fun n => if ns.contains n then failedSlot c (s.slots.get n) else s.slots.get n)
    (ns.map fun n => .scanDone n .unreadable) s

/-- Bytes 0 to 175 of two images differ (R52). -/
def coveredDiffer (old : ImageCopy) (img : List Byte) : Bool := old.bytes.take 176 != img.take 176

/-- The conditions of R52 but for the clash set: no copy before, other bytes 0 to 175, another state. -/
def scanIncrements (old : Slot) (img : List Byte) : Bool :=
  (match old.image with
  | none => true
  | some c => coveredDiffer c img) ||
    old.state != (validate img).classification

/-- A slot record with a new image, before clashes and generation (R51). -/
def scannedSlot (img : List Byte) (r : Slot) : Slot :=
  { r with state := (validate img).classification, image := some { bytes := img, marks := List.replicate 16 true }
           faults := (validate img).faults, more := (validate img).more, key := some (validate img).key, cause := none }

/-- The key a slot held before is not the new one (R52). -/
def keyReplaced (old : Slot) (img : List Byte) : Bool :=
  match old.key with
  | some k => k != identityKey img
  | none => false

/-- The partner DUPLICATE_IDENTITY names: the lowest slot of the new clash set, where the old one was empty (R39). -/
def newPartner (old : Slot) (newClash : List SlotNo) : Option SlotNo := if old.clash.isEmpty then newClash.head? else none

/-- The notices of a successful scan completion, in the order of R52. -/
def scanNotices (n : SlotNo) (old : Slot) (img : List Byte) (newClash : List SlotNo) : List NoticeBody :=
  (if keyReplaced old img then [.moduleReplaced n] else []) ++ [.scanDone n (validate img).classification] ++
    (match newPartner old newClash with
    | some m => [.duplicateIdentity n m]
    | none => [])

/-- A scan of slot `n` completes with an image (R51, R52). -/
def completeScan (n : SlotNo) (img : List Byte) (s : State) : State :=
  let changed := s.slots.set n (scannedSlot img (s.slots.get n))
  slotEvent (fun m => m == n && scanIncrements (s.slots.get n) img) changed
    (scanNotices n (s.slots.get n) img (clashOf changed n)) s

/-- The presence claim of a settle expiry, or a presence line going low: SETTLING with the settle time in force (R44). -/
def startSettling (n : SlotNo) (s : State) : State :=
  if (s.slots.get n).state = .empty then
    { s with slots := s.slots.set n { s.slots.get n with state := .settling, settle := some s.config.settleMs } }
  else s

/-- The presence lines are sampled: each slot whose line is low is taken as a presence low (R43). -/
def samplePresence (s : State) : State :=
  { s with
    slots := Eight.ofFn fun n =>
      if !s.pres.get n && (s.slots.get n).state == .empty then
        { s.slots.get n with state := .settling, settle := some s.config.settleMs }
      else s.slots.get n }

/-! ### Jobs (R67 to R70, R82, R85) -/

/-- The job in flight as it starts (R67, R70). -/
def launch (j : Job) (fromFaulted : Bool) : InFlight :=
  { job := j, stopMark := false, activity := if j.work = .recover then .recovery else .transaction, failed := 0
    bytesRead := [], phase := .writing, dataAcked := false, polls := 0, fromFaulted := fromFaulted }

/-- A job starts, at the speed in force; a RECOVER puts the bus in RECOVERING (R65, R66, R70). -/
def startJob (j : Job) (fromFaulted : Bool) (s : State) : State :=
  { s with
    inFlight := some (launch j fromFaulted)
    lineSpeed := s.config.busSpeed
    bus := if j.work = .recover then .recovering else .busy
    pulses := if j.work = .recover then 0 else s.pulses }

/-- With the bus IDLE and a job waiting, the oldest starts (R70). -/
def startNext (s : State) : State :=
  match s.bus, s.jobs with
  | .idle, j :: rest => startJob j false { s with jobs := rest }
  | _, _ => s

/-- The job in flight ends; the bus goes IDLE and the next job starts as part of the same end (R65). -/
def finishJob (s : State) : State := startNext { s with inFlight := none, bus := .idle }

/-- A job joins the end of the queue, and starts at once on an IDLE bus (R69, R70). -/
def appendJob (j : Job) (s : State) : State := startNext { s with jobs := s.jobs ++ [j] }

/-- The first waiting SCAN of slot `n` takes a claim. -/
def joinScan (n : SlotNo) (presence : Bool) (tags : List Byte) : List Job → List Job
  | [] => []
  | j :: js =>
    if isScanOf n j then { j with presence := j.presence || presence, tags := j.tags ++ tags } :: js
    else j :: joinScan n presence tags js

/-- A demand for a SCAN joins the waiting SCAN of the slot, or appends a new one; no job is started here (R50, R69). -/
def enqueueScan (n : SlotNo) (presence : Bool) (tags : List Byte) (s : State) : State :=
  if scanWaiting s n then { s with jobs := joinScan n presence tags s.jobs }
  else { s with jobs := s.jobs ++ [{ work := .scan n, presence := presence, tags := tags }] }

/-- A demand for a SCAN, and the start of a job on an IDLE bus (R69, R70). -/
def demandScan (n : SlotNo) (presence : Bool) (tags : List Byte) (s : State) : State :=
  startNext (enqueueScan n presence tags s)

/-- A marked SCAN or MODULE READ ends stopped: its tags are replied REMOVED, nothing is delivered (R85). -/
def endStopped (f : InFlight) (s : State) : State := finishJob (endTags .removed [] f.job.tags s)

/-- The job in flight is marked to stop; it ends at once in a retry wait, and otherwise at its next boundary (R85). -/
def markToStop (f : InFlight) (s : State) : State :=
  if f.activity = .retryWait then endStopped f s else { s with inFlight := some { f with stopMark := true } }

/-- The slots of the waiting presence scans, oldest first. -/
def presenceScanSlots (js : List Job) : List SlotNo :=
  js.filterMap fun j =>
    match j.work with
    | .scan n => if j.presence then some n else none
    | .moduleRead _ _ _ => none
    | .userWrite _ _ _ => none
    | .recover => none

/-- The bus enters FAULTED: every waiting job fails with BUS_FAULT, oldest first; presence scans are failures of their
slots; BUS_FAULTED is raised unless the recovery began in FAULTED (R82, R84). -/
def enterFaulted (announce : Bool) (s : State) : State :=
  let ended := endTags .busFault [] (s.jobs.flatMap Job.tags) { s with bus := .faulted, inFlight := none, jobs := [] }
  let failed := failScans (presenceScanSlots s.jobs) .bus ended
  if announce then raise .busFaulted failed else failed

/-! ### The user pages of an image copy (R57, R79) -/

/-- Bytes written into the copy at an offset, the page that holds it marked valid. -/
def writePage (off : Nat) (data : List Byte) (c : ImageCopy) : ImageCopy :=
  { bytes := overlay c.bytes off data, marks := c.marks.set (off / 16) true }

/-- The page that holds an offset marked not valid. -/
def invalidatePage (off : Nat) (c : ImageCopy) : ImageCopy := { c with marks := c.marks.set (off / 16) false }

/-- A change to the image copy of slot `n`, where it holds one (R79). -/
def changeCopy (n : SlotNo) (f : ImageCopy → ImageCopy) (s : State) : State :=
  { s with slots := s.slots.set n { s.slots.get n with image := (s.slots.get n).image.map f } }

/-! ### Profile entries (R132 to R138, R145, R146) -/

/-- State and clash flag of slot `n`, all that is copied of a slot without an image copy (R107). -/
def bareCopy (s : State) (n : SlotNo) : SlotCopy :=
  { slot := n, state := (s.slots.get n).state, clash := !(s.slots.get n).clash.isEmpty, decoded := none, overrides := [] }

/-- Slot `n` as a resolution copies it: state and clash flag, and of a slot with an image copy its decoded values and its
override list too (R107). -/
def copySlot (s : State) (n : SlotNo) : SlotCopy :=
  match (s.slots.get n).image with
  | some c => { bareCopy s n with decoded := some (decodeImage c.bytes), overrides := (s.slots.get n).overrides }
  | none => bareCopy s n

/-- The snapshot of an entry's inputs as they stand (R106). -/
def takeSnapshot (s : State) (r : ResolveRequest) : Snapshot :=
  { gens := r.slots.map fun n => (n, (s.slots.get n).gen), target := s.targetGen }

/-- The working record of a request's inputs as they stand (R107). -/
def takeInputs (s : State) (r : ResolveRequest) : Work :=
  { request := r, copies := r.slots.map (copySlot s), target := s.target
    ladder := match r.mode with
      | .fastest => some s.ladder
      | .fixed _ => none }

/-- The entry that holds a handle replaced. -/
def setEntry (h : Byte) (e : Entry) (s : State) : State :=
  { s with entries := s.entries.map fun x => if x.handle = h then e else x }

/-- With the Resolver IDLE, the first QUEUED entry goes to BUILDING: its snapshot is recorded and its inputs copied (R136). -/
def handOver (s : State) : State :=
  match s.work, s.entries.find? isQueued with
  | none, some e =>
    match e.state with
    | .queued t =>
      setEntry e.handle { e with state := .building t (takeSnapshot s e.request) }
        { s with work := some (takeInputs s e.request) }
    | .building _ _ => s
    | .valid _ _ => s
    | .stale _ _ => s
    | .failed _ _ => s
  | none, none => s
  | some _, _ => s

/-- The entry that holds a handle becomes FREE (R145). -/
def freeEntry (h : Byte) (s : State) : State := { s with entries := s.entries.filter fun e => e.handle != h }

/-- An entry is dropped: a QUEUED or BUILDING one has its RESOLVE replied CANCELLED with the handle, and a BUILDING one is
abandoned by the Resolver, which takes the next (R109, R145, R146, R168). -/
def dropEntry (e : Entry) (s : State) : State :=
  match e.state with
  | .queued t => freeEntry e.handle (endRequest .cancelled [e.handle] t s)
  | .building t _ => handOver { freeEntry e.handle (endRequest .cancelled [e.handle] t s) with work := none }
  | .valid _ _ => freeEntry e.handle s
  | .stale _ _ => freeEntry e.handle s
  | .failed _ _ => freeEntry e.handle s

/-- The handle after a handle, 255 wrapping to 1 (R132). -/
def succHandle (h : Byte) : Byte := if h = 255 then 1 else h + 1

/-- The first handle from `h` on that no entry holds, within a number of tries (R132). -/
def searchHandle (held : List Byte) : Nat → Byte → Byte
  | 0, h => h
  | k + 1, h => if held.contains h then searchHandle held k (succHandle h) else h

/-- A new QUEUED entry at the end of the age order, with the next handle and creation number (R132 to R134). -/
def allocate (tag : Byte) (r : ResolveRequest) (s : State) : State :=
  let h := searchHandle (s.entries.map Entry.handle) 6 s.nextHandle
  { s with
    entries := s.entries ++
      [{ handle := h, creation := s.nextCreation, applied := false, request := r, state := .queued tag }]
    nextHandle := succHandle h
    nextCreation := s.nextCreation + 1 }

/-- The oldest candidate is evicted when no entry is FREE (R135). -/
def evict (s : State) : State :=
  if s.entries.length < Config.profileEntries then s else { s with entries := s.entries.eraseP evictable }

/-- Room for a RESOLVE: a FREE entry, or one that can be evicted (R134, R135). -/
def hasRoom (s : State) : Bool := s.entries.length < Config.profileEntries || s.entries.any evictable

/-- Every generation of a snapshot is the current one (R137). -/
def snapshotCurrent (s : State) (sn : Snapshot) : Bool :=
  sn.gens.all (fun g => (s.slots.get g.1).gen == g.2) && sn.target == s.targetGen

/-- The reply to a RESOLVE whose entry has left BUILDING (R138, R206). -/
def completionReply (e : Entry) : Status × List Byte :=
  match e.state with
  | .valid _ p => (.ok, e.handle :: resultPayload p)
  | .stale _ p => (.stale, e.handle :: resultPayload p)
  | .failed _ f => (.failed, e.handle :: failurePayload f)
  | .queued _ => (.cancelled, [e.handle])
  | .building _ _ => (.cancelled, [e.handle])

/-- The state an entry takes at completion (R137). -/
def judge (s : State) (sn : Snapshot) : Outcome → EntryState
  | .failure f => .failed sn f
  | .result p => if snapshotCurrent s sn then .valid sn p else .stale sn p

/-! ### Resets -/

/-- Every outstanding request is replied ABORTED, in the order taken; a RESOLVE's reply carries its entry's handle (R164, R168). -/
def abortedReply (s : State) (o : Outstanding) : Reply :=
  { tag := o.tag, kind := o.kind, status := .aborted
    payload := match o.claim with
      | .busJob => []
      | .profile => ((entryOfTag s o.tag).map fun e => [e.handle]).getD [] }

/-- Step 1 of a RESET: the ABORTED replies, and the inbox empty (R164). -/
def abortAll (s : State) : State := { s with tx := s.tx ++ s.inbox.map (abortedReply s), inbox := [] }

/-- A waiting job without its host tags (R90). -/
def withoutTags (j : Job) : Job := { j with tags := [] }

/-- A session reset at the bus: host claims removed, claimless waiting jobs dropped, the job in flight by its kind (R90, R91). -/
def sessionBus (s : State) : State :=
  let waiting := { s with jobs := (s.jobs.filter Job.presence).map withoutTags }
  match s.inFlight with
  | none => waiting
  | some f =>
    let g := { f with job := withoutTags f.job }
    match f.job.work with
    | .scan _ => if f.job.presence then { waiting with inFlight := some g } else markToStop g waiting
    | .moduleRead _ _ _ => markToStop g waiting
    | .userWrite _ _ _ => { waiting with inFlight := some g }
    | .recover => { waiting with inFlight := some g }

/-- A session reset at the Slot Table: override lists emptied, with an increment where they were not empty (R64). -/
def sessionSlots (s : State) : State :=
  { s with
    slots := Eight.ofFn fun n =>
      let r := s.slots.get n
      if r.overrides.isEmpty then r else { r with overrides := [], gen := r.gen + 1 } }

/-- A session reset at the Profile Table: every entry FREE, the Resolver IDLE, the counters restarted (R148). -/
def sessionProfiles (s : State) : State := { s with entries := [], work := none, nextHandle := 1, nextCreation := 0 }

/-- A session reset at the Notice Queue: emptied, the sequence counter kept, ALERT_N released (R200). -/
def sessionNotices (s : State) : State := updateAlert { s with notices := [] }

/-- The session reset of every block (R164, step 3). -/
def sessionReset (s : State) : State := sessionNotices (sessionSlots (sessionProfiles (sessionBus s)))

/-- At a RESET FULL the entries that are QUEUED or BUILDING become FREE and the Resolver abandons its work (R165). -/
def freeUnfinished (s : State) : State :=
  { s with entries := s.entries.filter fun e => (requestTag e).isNone, work := none }

/-- CLOSING begins: the receiver takes no bytes, and a frame in progress is dropped (R165). -/
def beginClosing (s : State) : State := { s with closing := true, rx := receiverIdle }

/-- The full reset takes effect: every block as at a line reset, the rate kept, the presence lines sampled (R63, R165, R166). -/
def fullReset (s : State) : State :=
  samplePresence
    { State.reset with pending := s.pending, rateHigh := s.rateHigh, pres := s.pres, resetAsserted := false }

/-! ### Acceptance of a good frame (R156, R157) -/

/-- A good frame: discarded OVERRUN without a free place, otherwise checked in the order of R157 and handed to its owner.
While the receiver takes no bytes no frame arrives (R165, R166). -/
def acceptFrame (tag kind : Byte) (owner : State → State) (s : State) : State :=
  if !linkOpen s then s
  else if freePlaces s = 0 then raise (.linkFrameDropped .overrun) s
  else if tag = 0 then refuse tag kind .badArgument s
  else if isOutstanding s tag then refuse tag kind .duplicateTag s
  else if !requestKinds.contains kind then refuse tag kind .unknownKind s
  else if Config.maxOutstanding ≤ s.inbox.length && !passesFull.contains kind then refuse tag kind .full s
  else owner s

end Sys2Proof.Machine
end

