-- ==== Sys2Proof/Machine/BusCommands.lean ====
section
/-! DEFINITION. The events of the sideband bus: ends and failures of transactions, timers, the stuck bus, recoveries. An
event that cannot occur in the state the job in flight is in has no effect (log 3). -/

namespace Sys2Proof.Machine

/-- The bytes of a segment, and of a page (R74, R79). -/
def segmentLength : Nat := 16

/-- Attempts a transaction has (R72). -/
def maxAttempts : Nat := 4

/-- Polls a USER WRITE sends (R78). -/
def maxPolls : Nat := 10

/-- A SCAN of slot `n` completes with its image: the Slot Table first, then its tags OK with the slot as the completion left
it, then the end of the job (R75, R182). -/
def scanCompletion (n : SlotNo) (f : InFlight) (image : List Byte) (s : State) : State :=
  let done := completeScan n image s
  finishJob (endTags .ok (rescanPayload (done.slots.get n)) f.job.tags done)

/-- A segment of the SCAN `f` of slot `n` ends successfully (R74). -/
def segmentEnd (n : SlotNo) (f : InFlight) (bytes : List Byte) (s : State) : State :=
  let image := f.bytesRead ++ bytes
  if f.stopMark then endStopped f s
  else if 256 ≤ image.length then scanCompletion n f (image.take 256) s
  else { s with inFlight := some { f with bytesRead := image, failed := 0 } }

/-- SEGMENT_DONE (R74, R75). -/
def execSegmentDone (bytes : List Byte) (s : State) : Answer :=
  match s.inFlight with
  | some f =>
    match f.job.work with
    | .scan n =>
      .next (if f.activity = .transaction ∧ bytes.length = segmentLength then segmentEnd n f bytes s else s)
    | .moduleRead _ _ _ => .next s
    | .userWrite _ _ _ => .next s
    | .recover => .next s
  | none => .next s

/-- The job is in the page write of a USER WRITE. -/
def inPageWrite (f : InFlight) : Bool :=
  match f.job.work with
  | .userWrite _ _ _ => f.activity == .transaction && f.phase == .writing
  | .scan _ => false
  | .moduleRead _ _ _ => false
  | .recover => false

/-- What a page write that does not end well leaves in the progress: whether a data byte was acknowledged (R67, R77; log 10). -/
def noteAcked (dataAcked : Bool) (f : InFlight) : InFlight :=
  { f with dataAcked := f.dataAcked || (dataAcked && inPageWrite f) }

/-- The page's contents may have changed without being read back (R79). -/
def pageLost (f : InFlight) : Bool := f.dataAcked || f.phase != .writing

/-- A job that fails hands its failure to the slot and to its tags (R75, R76, R79). -/
def deliverFailure (f : InFlight) (c : UnreadableCause) (st : Status) (s : State) : State :=
  match f.job.work with
  | .scan n => endTags st [] f.job.tags (failScans [n] c s)
  | .moduleRead _ _ _ => endTags st [] f.job.tags s
  | .userWrite n off _ =>
    endTags st [] f.job.tags (if pageLost f then changeCopy n (invalidatePage off) s else s)
  | .recover => s

/-- A transaction fails: the mark, a retry, or NO_RESPONSE after the fourth attempt (R72, R85; log 8). -/
def transactionEnd (f : InFlight) (s : State) : State :=
  if f.stopMark then endStopped f s
  else if f.failed + 1 < maxAttempts then
    { s with inFlight := some { f with failed := f.failed + 1, activity := .retryWait } }
  else finishJob (deliverFailure f .noResponse .noResponse s)

/-- TRANSACTION_FAILED (R72). -/
def execTransactionFailed (dataAcked : Bool) (s : State) : Answer :=
  match s.inFlight with
  | some f => .next (if f.activity = .transaction then transactionEnd (noteAcked dataAcked f) s else s)
  | none => .next s

/-- RETRY_TIMER_EXPIRY: the mark is looked at, and the whole transaction starts again (R72, R74). -/
def execRetryTimerExpiry (s : State) : Answer :=
  match s.inFlight with
  | some f =>
    .next (if f.activity = .retryWait then
      (if f.stopMark then endStopped f s else { s with inFlight := some { f with activity := .transaction } })
    else s)
  | none => .next s

/-- The job in flight fails by stuck bus: a marked job delivers nothing and its tags are replied REMOVED (R73). -/
def stuckFailure (f : InFlight) (s : State) : State :=
  if f.stopMark then endTags .removed [] f.job.tags s else deliverFailure f .bus .busFault s

/-- STUCK_BUS: the job fails and the recovery begins at once; no waiting job starts (R65, R73, R80). -/
def execStuckBus (dataAcked : Bool) (s : State) : Answer :=
  match s.inFlight with
  | some f =>
    .next (if s.bus = .busy then
      { stuckFailure (noteAcked dataAcked f) s with inFlight := none, bus := .recovering, pulses := 0 }
    else s)
  | none => .next s

/-- Pulses a recovery sends: one for each look that finds SDA low, none once it is high, at most 9 (R80; log 11). -/
def pulsesSent (sdaLooks : List Bool) : Nat := min 9 (sdaLooks.takeWhile fun high => !high).length

/-- The slots a bus recovery rescans: UNREADABLE with cause BUS (R56). -/
def lostToBus (r : Slot) : Bool := r.state == .unreadable && r.cause == some .bus

/-- The recovery of the bus at the Slot Table: those slots go to READING without an increment or a notice, and a presence
scan is demanded for each in ascending order; no job starts yet (R56, R84). -/
def recoveryRescans (s : State) : State :=
  (allSlots.filter fun n => lostToBus (s.slots.get n)).foldl (fun t n => enqueueScan n true [] t)
    { s with
      slots := Eight.ofFn fun n =>
        if lostToBus (s.slots.get n) then { s.slots.get n with state := .reading, cause := none } else s.slots.get n }

/-- A RECOVER job begun in FAULTED succeeds (R84). -/
def busRecovered (f : InFlight) (s : State) : State :=
  startNext (recoveryRescans (raise .busRecovered
    (endTags .ok [] f.job.tags { s with inFlight := none, bus := .idle })))

/-- The end of a RECOVER job (R83, R84). -/
def recoverEnd (f : InFlight) (free : Bool) (s : State) : State :=
  match f.fromFaulted, free with
  | false, true => finishJob (endTags .ok [] f.job.tags s)
  | false, false => enterFaulted true (endTags .busFault [] f.job.tags s)
  | true, true => busRecovered f s
  | true, false => enterFaulted false (endTags .busFault [] f.job.tags s)

/-- The end of a recovery: one after a stuck bus has no job in flight (R81, R82), a RECOVER job is in flight itself. -/
def recoveryOutcome (free : Bool) (s : State) : State :=
  match s.inFlight with
  | some f => recoverEnd f free s
  | none => if free then startNext { s with bus := .idle } else enterFaulted true s

/-- RECOVERY_END: the bus is free when both lines are high after the stop condition (R80). -/
def execRecoveryEnd (sdaLooks : List Bool) (sclHigh sdaHigh : Bool) (s : State) : Answer :=
  .next (if s.bus = .recovering then
    recoveryOutcome (sclHigh && sdaHigh) { s with pulses := pulsesSent sdaLooks }
  else s)

/-- MODULE_READ_DONE (R76). -/
def execModuleReadDone (bytes : List Byte) (s : State) : Answer :=
  match s.inFlight with
  | some f =>
    match f.job.work with
    | .moduleRead _ _ len =>
      .next (if f.activity = .transaction ∧ bytes.length = len then
        (if f.stopMark then endStopped f s else finishJob (endTags .ok bytes f.job.tags s))
      else s)
    | .scan _ => .next s
    | .userWrite _ _ _ => .next s
    | .recover => .next s
  | none => .next s

/-- PAGE_WRITE_DONE: every byte acknowledged, the job enters POLLING and waits for its first poll (R77, R78). -/
def execPageWriteDone (s : State) : Answer :=
  match s.inFlight with
  | some f =>
    .next (if inPageWrite f then
      { s with inFlight := some { f with phase := .polling, activity := .pollWait, failed := 0, dataAcked := true, polls := 0 } }
    else s)
  | none => .next s

/-- POLL_TIMER_EXPIRY: a poll is sent (R78). -/
def execPollTimerExpiry (s : State) : Answer :=
  match s.inFlight with
  | some f =>
    .next (if f.activity = .pollWait then { s with inFlight := some { f with activity := .poll, polls := f.polls + 1 } }
    else s)
  | none => .next s

/-- The write ends WRITE_TIMEOUT: its page is marked not valid (R79). -/
def writeTimeout (f : InFlight) (n : SlotNo) (off : Nat) (s : State) : State :=
  finishJob (endTags .writeTimeout [] f.job.tags (changeCopy n (invalidatePage off) s))

/-- A poll of the USER WRITE `f` ends (R78). -/
def pollEnd (f : InFlight) (n : SlotNo) (off : Nat) (acked : Bool) (s : State) : State :=
  if acked then { s with inFlight := some { f with phase := .readBack, activity := .transaction, failed := 0 } }
  else if f.polls < maxPolls then { s with inFlight := some { f with activity := .pollWait } }
  else writeTimeout f n off s

/-- POLL_DONE (R78, R79). -/
def execPollDone (acked : Bool) (s : State) : Answer :=
  match s.inFlight with
  | some f =>
    match f.job.work with
    | .userWrite n off _ => .next (if f.activity = .poll then pollEnd f n off acked s else s)
    | .scan _ => .next s
    | .moduleRead _ _ _ => .next s
    | .recover => .next s
  | none => .next s

/-- The written bytes equal the bytes read back at their offsets (R79). -/
def readBackEqual (off : Nat) (data page : List Byte) : Bool := window page (off % 16) data.length == data

/-- The read-back of a USER WRITE ends: OK with the written bytes placed, or MISMATCH with the page as read (R57, R79). -/
def readBackEnd (f : InFlight) (n : SlotNo) (off : Nat) (data page : List Byte) (s : State) : State :=
  if readBackEqual off data page then finishJob (endTags .ok [] f.job.tags (changeCopy n (writePage off data) s))
  else finishJob (endTags .mismatch page f.job.tags (changeCopy n (writePage (pageStart off) page) s))

/-- READ_BACK_DONE (R79). -/
def execReadBackDone (bytes : List Byte) (s : State) : Answer :=
  match s.inFlight with
  | some f =>
    match f.job.work with
    | .userWrite n off data =>
      .next (if f.activity = .transaction ∧ f.phase = .readBack ∧ bytes.length = segmentLength then
        readBackEnd f n off data bytes s
      else s)
    | .scan _ => .next s
    | .moduleRead _ _ _ => .next s
    | .recover => .next s
  | none => .next s

/-- USER_WRITE_ABANDON_END: the job ends and the queue continues (R87). -/
def execUserWriteAbandonEnd (s : State) : Answer :=
  match s.inFlight with
  | some f => .next (if f.activity = .stopCondition then finishJob s else s)
  | none => .next s

end Sys2Proof.Machine
end

