-- ==== Sys2Proof/Machine/ControlRequests.lean ====
section
/-! DEFINITION. FETCH NOTICES, CANCEL and RESET, the kinds that pass the FULL check. -/

namespace Sys2Proof.Machine

/-- FETCH NOTICES: records leave the front of the queue, and ALERT_N follows (R187, R197, R198). -/
def ownFetchNotices (tag : Byte) (payload : List Byte) (s : State) : State :=
  match maximumArg payload with
  | none => refuse tag kindFetchNotices .badArgument s
  | some m =>
    answer tag kindFetchNotices .ok (noticesPayload (s.notices.take m))
      (updateAlert { s with notices := s.notices.drop m })

/-- The waiting jobs without a host claim: a job left with no claim leaves the queue (R67, R88). -/
def dropClaim (t : Byte) (js : List Job) : List Job :=
  (js.map fun j => { j with tags := j.tags.erase t }).filter fun j => !claimless j

/-- A CANCEL's success: the named request is replied CANCELLED, then the CANCEL OK (R88, R162). -/
def cancelledThenOk (tag t : Byte) (s : State) : State := answer tag kindCancel .ok [] (endRequest .cancelled [] t s)

/-- A host claim leaves the SCAN or MODULE READ in flight; the job is marked to stop when no claim remains (R85, R89). -/
def dropFlightClaim (t : Byte) (f : InFlight) (s : State) : State :=
  let g := { f with job := { f.job with tags := f.job.tags.erase t } }
  if claimless g.job then markToStop g s else { s with inFlight := some g }

/-- CANCEL of a tag on the job in flight, by the job's kind (R89). -/
def cancelInFlight (tag t : Byte) (f : InFlight) (s : State) : State :=
  match f.job.work with
  | .scan _ => dropFlightClaim t f (cancelledThenOk tag t s)
  | .moduleRead _ _ _ => dropFlightClaim t f (cancelledThenOk tag t s)
  | .userWrite _ _ _ => refuse tag kindCancel .tooLate s
  | .recover => refuse tag kindCancel .tooLate s

/-- CANCEL of a bus request (R88, R89). -/
def cancelJob (tag t : Byte) (s : State) : State :=
  if s.jobs.any fun j => j.tags.contains t then cancelledThenOk tag t { s with jobs := dropClaim t s.jobs }
  else
    match s.inFlight with
    | some f => if f.job.tags.contains t then cancelInFlight tag t f s else refuse tag kindCancel .notFound s
    | none => refuse tag kindCancel .notFound s

/-- CANCEL of a RESOLVE: as a DROP of its entry (R146). -/
def cancelResolve (tag t : Byte) (s : State) : State :=
  match entryOfTag s t with
  | some e => answer tag kindCancel .ok [] (dropEntry e s)
  | none => refuse tag kindCancel .notFound s

/-- CANCEL (R163, R188). -/
def ownCancel (tag : Byte) (payload : List Byte) (s : State) : State :=
  match oneByteArg payload with
  | none => refuse tag kindCancel .badArgument s
  | some t =>
    match s.inbox.find? fun o => o.tag == t with
    | none => refuse tag kindCancel .notFound s
    | some o =>
      match o.claim with
      | .busJob => cancelJob tag t s
      | .profile => cancelResolve tag t s

/-- A RESET of scope SESSION: ABORTED replies, OK, the session reset (R164). -/
def resetBySession (tag : Byte) (s : State) : State := sessionReset (answer tag kindReset .ok [] (abortAll s))

/-- A RESET of scope FULL: ABORTED replies, OK, the claims removed by the owners, CLOSING (R165). -/
def resetByFull (tag : Byte) (s : State) : State :=
  beginClosing (freeUnfinished (sessionBus (answer tag kindReset .ok [] (abortAll s))))

/-- RESET, by its scope (R164, R165, R190). -/
def ownReset (tag : Byte) (payload : List Byte) (s : State) : State :=
  match scopeArg payload with
  | none => refuse tag kindReset .badArgument s
  | some false => resetBySession tag s
  | some true => resetByFull tag s

/-- A frame of kind FETCH NOTICES. -/
def execFetchNotices (tag : Byte) (payload : List Byte) (s : State) : Answer :=
  .next (acceptFrame tag kindFetchNotices (ownFetchNotices tag payload) s)

/-- A frame of kind CANCEL. -/
def execCancel (tag : Byte) (payload : List Byte) (s : State) : Answer :=
  .next (acceptFrame tag kindCancel (ownCancel tag payload) s)

/-- A RESET frame of scope SESSION, or a malformed one (log 14). -/
def execResetSession (tag : Byte) (payload : List Byte) (s : State) : Answer :=
  .next (acceptFrame tag kindReset (ownReset tag payload) s)

/-- A RESET frame of scope FULL, or a malformed one (log 14). -/
def execResetFull (tag : Byte) (payload : List Byte) (s : State) : Answer :=
  .next (acceptFrame tag kindReset (ownReset tag payload) s)

end Sys2Proof.Machine
end

