-- ==== Sys2Proof/Machine/JobRequests.lean ====
section
/-! DEFINITION. The long requests that make bus jobs: READ MODULE, WRITE USER, RESCAN, BUS RESET. -/

namespace Sys2Proof.Machine

/-- A job with one host tag joins the queue and its request the inbox (R69, R158). -/
def takeJob (tag kind : Byte) (w : JobWork) (s : State) : State :=
  appendJob { work := w, presence := false, tags := [tag] } (joinInbox tag kind .busJob s)

/-- READ MODULE (R178). -/
def ownReadModule (tag : Byte) (payload : List Byte) (s : State) : State :=
  match rangeArg payload with
  | none => refuse tag kindReadModule .badArgument s
  | some (n, off, len) =>
    if !occupied (s.slots.get n).state then refuse tag kindReadModule .notReady s
    else if s.bus = .faulted then refuse tag kindReadModule .busFault s
    else takeJob tag kindReadModule (.moduleRead n off len) s

/-- WRITE USER (R77, R179). -/
def ownWriteUser (tag : Byte) (payload : List Byte) (s : State) : State :=
  match writeArg payload with
  | none => refuse tag kindWriteUser .badArgument s
  | some (n, off, data) =>
    if off < 208 then refuse tag kindWriteUser .isProtected s
    else if !writeFits off data.length then refuse tag kindWriteUser .badArgument s
    else if !classified (s.slots.get n).state then refuse tag kindWriteUser .notReady s
    else if s.bus = .faulted then refuse tag kindWriteUser .busFault s
    else takeJob tag kindWriteUser (.userWrite n off data) s

/-- RESCAN (R181). -/
def ownRescan (tag : Byte) (payload : List Byte) (s : State) : State :=
  match rescanArg payload with
  | none => refuse tag kindRescan .badArgument s
  | some (n, force) =>
    if !occupied (s.slots.get n).state then refuse tag kindRescan .notReady s
    else if !force && inAppliedSet s n then refuse tag kindRescan .inUse s
    else if s.bus = .faulted then refuse tag kindRescan .busFault s
    else demandScan n false [tag] (joinInbox tag kindRescan .busJob s)

/-- BUS RESET, whatever its payload: at once while FAULTED, otherwise in its turn (R84, R167, R189). -/
def ownBusReset (tag : Byte) (_payload : List Byte) (s : State) : State :=
  if s.bus = .faulted then
    startJob { work := .recover, presence := false, tags := [tag] } true (joinInbox tag kindBusReset .busJob s)
  else takeJob tag kindBusReset .recover s

/-- A frame of kind READ MODULE. -/
def execReadModule (tag : Byte) (payload : List Byte) (s : State) : Answer :=
  .next (acceptFrame tag kindReadModule (ownReadModule tag payload) s)

/-- A frame of kind WRITE USER. -/
def execWriteUser (tag : Byte) (payload : List Byte) (s : State) : Answer :=
  .next (acceptFrame tag kindWriteUser (ownWriteUser tag payload) s)

/-- A frame of kind RESCAN. -/
def execRescan (tag : Byte) (payload : List Byte) (s : State) : Answer :=
  .next (acceptFrame tag kindRescan (ownRescan tag payload) s)

/-- A frame of kind BUS RESET. -/
def execBusReset (tag : Byte) (payload : List Byte) (s : State) : Answer :=
  .next (acceptFrame tag kindBusReset (ownBusReset tag payload) s)

end Sys2Proof.Machine
end

