-- ==== Sys2Proof/Machine/ProfileRequests.lean ====
section
/-! DEFINITION. The requests the Profile Table owns: RESOLVE, GET PROFILE, LIST PROFILES, APPLY, UNAPPLY, DROP. -/

namespace Sys2Proof.Machine

/-- A RESOLVE is taken: eviction where no entry is FREE, allocation, and the hand-over to an IDLE Resolver (R134 to R136). -/
def takeResolve (tag : Byte) (r : ResolveRequest) (s : State) : State :=
  handOver (joinInbox tag kindResolve .profile (allocate tag r (evict s)))

/-- RESOLVE (R134, R184). -/
def ownResolve (tag : Byte) (payload : List Byte) (s : State) : State :=
  match resolveArg payload with
  | none => refuse tag kindResolve .badArgument s
  | some r => if hasRoom s then takeResolve tag r s else refuse tag kindResolve .tableFull s

/-- What a request that names a handle does with the entry that holds it: BAD_ARGUMENT for a payload that is not one byte,
UNKNOWN_PROFILE for a handle no entry holds (R142, R143, R145, R147, R167). -/
def withEntry (tag kind : Byte) (payload : List Byte) (act : Entry → State → State) (s : State) : State :=
  match oneByteArg payload with
  | none => refuse tag kind .badArgument s
  | some h =>
    match entryAt s h with
    | none => refuse tag kind .unknownProfile s
    | some e => act e s

/-- GET PROFILE (R147, R185). -/
def ownGetProfile (tag : Byte) (payload : List Byte) (s : State) : State :=
  withEntry tag kindGetProfile payload (fun e t => answer tag kindGetProfile .ok (profilePayload e) t) s

/-- LIST PROFILES, whatever its payload (R147, R167, R185). -/
def ownListProfiles (tag : Byte) (_payload : List Byte) (s : State) : State :=
  answer tag kindListProfiles .ok (listProfilesPayload s) s

/-- APPLY of an entry (R142). -/
def applyEntry (tag : Byte) (e : Entry) (s : State) : State :=
  if e.applied then answer tag kindApply .ok [] s
  else if anyApplied s then refuse tag kindApply .inUse s
  else if !isValid e then refuse tag kindApply .notReady s
  else answer tag kindApply .ok [] (setEntry e.handle { e with applied := true } s)

/-- APPLY (R142, R186). -/
def ownApply (tag : Byte) (payload : List Byte) (s : State) : State :=
  withEntry tag kindApply payload (applyEntry tag) s

/-- UNAPPLY of an entry (R143). -/
def unapplyEntry (tag : Byte) (e : Entry) (s : State) : State :=
  if e.applied then answer tag kindUnapply .ok [] (setEntry e.handle { e with applied := false } s)
  else refuse tag kindUnapply .notFound s

/-- UNAPPLY (R143, R186). -/
def ownUnapply (tag : Byte) (payload : List Byte) (s : State) : State :=
  withEntry tag kindUnapply payload (unapplyEntry tag) s

/-- DROP of an entry; a CANCELLED reply to its RESOLVE goes before the OK (R145, R162). -/
def dropNamed (tag : Byte) (e : Entry) (s : State) : State :=
  if e.applied then refuse tag kindDrop .inUse s else answer tag kindDrop .ok [] (dropEntry e s)

/-- DROP (R145, R186). -/
def ownDrop (tag : Byte) (payload : List Byte) (s : State) : State :=
  withEntry tag kindDrop payload (dropNamed tag) s

/-- A frame of kind RESOLVE. -/
def execResolve (tag : Byte) (payload : List Byte) (s : State) : Answer :=
  .next (acceptFrame tag kindResolve (ownResolve tag payload) s)

/-- A frame of kind GET PROFILE. -/
def execGetProfile (tag : Byte) (payload : List Byte) (s : State) : Answer :=
  .next (acceptFrame tag kindGetProfile (ownGetProfile tag payload) s)

/-- A frame of kind LIST PROFILES. -/
def execListProfiles (tag : Byte) (payload : List Byte) (s : State) : Answer :=
  .next (acceptFrame tag kindListProfiles (ownListProfiles tag payload) s)

/-- A frame of kind APPLY. -/
def execApply (tag : Byte) (payload : List Byte) (s : State) : Answer :=
  .next (acceptFrame tag kindApply (ownApply tag payload) s)

/-- A frame of kind UNAPPLY. -/
def execUnapply (tag : Byte) (payload : List Byte) (s : State) : Answer :=
  .next (acceptFrame tag kindUnapply (ownUnapply tag payload) s)

/-- A frame of kind DROP. -/
def execDrop (tag : Byte) (payload : List Byte) (s : State) : Answer :=
  .next (acceptFrame tag kindDrop (ownDrop tag payload) s)

end Sys2Proof.Machine
end

