-- ==== Sys2Proof/Machine/SettingsRequests.lean ====
section
/-! DEFINITION. The requests Settings owns: INFO, CONFIGURE, SET TARGET, GET TARGET, SET LADDER, GET LADDER. Each owner acts
on a frame that has passed acceptance. -/

namespace Sys2Proof.Machine

/-- INFO, whatever its payload (R167, R169). -/
def ownInfo (tag : Byte) (_payload : List Byte) (s : State) : State := answer tag kindInfo .ok (infoPayload s) s

/-- CONFIGURE: three settings together; ALERT_N follows alert enable (R102, R103, R170, R198). -/
def ownConfigure (tag : Byte) (payload : List Byte) (s : State) : State :=
  match configArg payload with
  | none => refuse tag kindConfigure .badArgument s
  | some c => answer tag kindConfigure .ok (configPayload c) (updateAlert { s with config := c })

/-- The Target Record replaced: its generation incremented, every VALID entry STALE (R95, R96). -/
def replaceTarget (t : Target) (s : State) : State :=
  staleAll { s with target := t, targetGen := s.targetGen + 1 }

/-- SET TARGET (R95, R171). -/
def ownSetTarget (tag : Byte) (payload : List Byte) (s : State) : State :=
  match targetArg payload with
  | none => refuse tag kindSetTarget .badArgument s
  | some t =>
    if anyApplied s then refuse tag kindSetTarget .inUse s
    else answer tag kindSetTarget .ok (le2 (s.targetGen + 1).toNat) (replaceTarget t s)

/-- GET TARGET, whatever its payload (R98, R171). -/
def ownGetTarget (tag : Byte) (_payload : List Byte) (s : State) : State :=
  answer tag kindGetTarget .ok (targetPayload s.target ++ le2 s.targetGen.toNat) s

/-- SET LADDER (R100, R101, R172). -/
def ownSetLadder (tag : Byte) (payload : List Byte) (s : State) : State :=
  match ladderArg payload with
  | none => refuse tag kindSetLadder .badArgument s
  | some ps => answer tag kindSetLadder .ok [] { s with ladder := ps }

/-- GET LADDER, whatever its payload (R100, R172). -/
def ownGetLadder (tag : Byte) (_payload : List Byte) (s : State) : State :=
  answer tag kindGetLadder .ok (ladderPayload s.ladder) s

/-- A frame of kind INFO. -/
def execInfo (tag : Byte) (payload : List Byte) (s : State) : Answer :=
  .next (acceptFrame tag kindInfo (ownInfo tag payload) s)

/-- A frame of kind CONFIGURE. -/
def execConfigure (tag : Byte) (payload : List Byte) (s : State) : Answer :=
  .next (acceptFrame tag kindConfigure (ownConfigure tag payload) s)

/-- A frame of kind SET TARGET. -/
def execSetTarget (tag : Byte) (payload : List Byte) (s : State) : Answer :=
  .next (acceptFrame tag kindSetTarget (ownSetTarget tag payload) s)

/-- A frame of kind GET TARGET. -/
def execGetTarget (tag : Byte) (payload : List Byte) (s : State) : Answer :=
  .next (acceptFrame tag kindGetTarget (ownGetTarget tag payload) s)

/-- A frame of kind SET LADDER. -/
def execSetLadder (tag : Byte) (payload : List Byte) (s : State) : Answer :=
  .next (acceptFrame tag kindSetLadder (ownSetLadder tag payload) s)

/-- A frame of kind GET LADDER. -/
def execGetLadder (tag : Byte) (payload : List Byte) (s : State) : Answer :=
  .next (acceptFrame tag kindGetLadder (ownGetLadder tag payload) s)

end Sys2Proof.Machine
end

