-- ==== Sys2Proof/Machine/SlotRequests.lean ====
section
/-! DEFINITION. The requests the Slot Table owns: LIST SLOTS, GET SLOT, READ IMAGE, SET OVERRIDE, CLEAR OVERRIDES. -/

namespace Sys2Proof.Machine

/-- LIST SLOTS, whatever its payload (R167, R173). -/
def ownListSlots (tag : Byte) (_payload : List Byte) (s : State) : State :=
  answer tag kindListSlots .ok (listSlotsPayload s) s

/-- GET SLOT (R174 to R176). -/
def ownGetSlot (tag : Byte) (payload : List Byte) (s : State) : State :=
  match slotViewArg payload with
  | none => refuse tag kindGetSlot .badArgument s
  | some (n, v) =>
    match viewPayload s n v with
    | none => refuse tag kindGetSlot .notCached s
    | some bytes => answer tag kindGetSlot .ok bytes s

/-- READ IMAGE (R177). -/
def ownReadImage (tag : Byte) (payload : List Byte) (s : State) : State :=
  match rangeArg payload with
  | none => refuse tag kindReadImage .badArgument s
  | some (n, off, len) =>
    match imageRange (s.slots.get n) off len with
    | none => refuse tag kindReadImage .notCached s
    | some bytes => answer tag kindReadImage .ok bytes s

/-- An override list with an override placed: the value replaced in its place, or appended (R58). -/
def placeOverride (o : Override) : List Override → List Override
  | [] => [o]
  | p :: ps => if p.param = o.param then o :: ps else p :: placeOverride o ps

/-- The list has an entry for the parameter. -/
def overrides (os : List Override) (p : Param) : Bool := os.any fun o => o.param == p

/-- The override list of slot `n` changed: its generation incremented, and VALID entries that hold it STALE (R58, R59, R139). -/
def changeOverrides (n : SlotNo) (os : List Override) (s : State) : State :=
  staleSlots (fun m => m == n)
    { s with slots := s.slots.set n { s.slots.get n with overrides := os, gen := (s.slots.get n).gen + 1 } }

/-- The OK of SET OVERRIDE and CLEAR OVERRIDES: generation and count after the request (R183). -/
def overrideReply (tag kind : Byte) (n : SlotNo) (s : State) : State :=
  answer tag kind .ok (overridePayload (s.slots.get n)) s

/-- SET OVERRIDE's effect where it is accepted: a value replaced by itself changes nothing (R58). -/
def acceptOverride (n : SlotNo) (o : Override) (s : State) : State :=
  if (s.slots.get n).overrides.contains o then s
  else changeOverrides n (placeOverride o (s.slots.get n).overrides) s

/-- SET OVERRIDE (R58, R183). -/
def ownSetOverride (tag : Byte) (payload : List Byte) (s : State) : State :=
  match overrideArg payload with
  | none => refuse tag kindSetOverride .badArgument s
  | some (n, o) =>
    if !occupied (s.slots.get n).state then refuse tag kindSetOverride .notReady s
    else if inAppliedSet s n then refuse tag kindSetOverride .inUse s
    else if !overrides (s.slots.get n).overrides o.param && Config.maxOverrides ≤ (s.slots.get n).overrides.length then
      refuse tag kindSetOverride .badArgument s
    else overrideReply tag kindSetOverride n (acceptOverride n o s)

/-- CLEAR OVERRIDES's effect where it is accepted: an empty list changes nothing (R59). -/
def acceptClear (n : SlotNo) (s : State) : State :=
  if (s.slots.get n).overrides.isEmpty then s else changeOverrides n [] s

/-- CLEAR OVERRIDES (R59, R183). -/
def ownClearOverrides (tag : Byte) (payload : List Byte) (s : State) : State :=
  match oneSlotArg payload with
  | none => refuse tag kindClearOverrides .badArgument s
  | some n =>
    if !occupied (s.slots.get n).state then refuse tag kindClearOverrides .notReady s
    else if inAppliedSet s n then refuse tag kindClearOverrides .inUse s
    else overrideReply tag kindClearOverrides n (acceptClear n s)

/-- A frame of kind LIST SLOTS. -/
def execListSlots (tag : Byte) (payload : List Byte) (s : State) : Answer :=
  .next (acceptFrame tag kindListSlots (ownListSlots tag payload) s)

/-- A frame of kind GET SLOT. -/
def execGetSlot (tag : Byte) (payload : List Byte) (s : State) : Answer :=
  .next (acceptFrame tag kindGetSlot (ownGetSlot tag payload) s)

/-- A frame of kind READ IMAGE. -/
def execReadImage (tag : Byte) (payload : List Byte) (s : State) : Answer :=
  .next (acceptFrame tag kindReadImage (ownReadImage tag payload) s)

/-- A frame of kind SET OVERRIDE. -/
def execSetOverride (tag : Byte) (payload : List Byte) (s : State) : Answer :=
  .next (acceptFrame tag kindSetOverride (ownSetOverride tag payload) s)

/-- A frame of kind CLEAR OVERRIDES. -/
def execClearOverrides (tag : Byte) (payload : List Byte) (s : State) : Answer :=
  .next (acceptFrame tag kindClearOverrides (ownClearOverrides tag payload) s)

end Sys2Proof.Machine
end

