-- ==== Sys2Proof/Machine/LinkCommands.lean ====
section
/-! DEFINITION. The Link Controller: routing of a good frame, the receiver, the transmitter. -/

namespace Sys2Proof.Machine

/-- The owner of a request kind (R158); for a byte that is no request kind acceptance has ended the frame before. -/
def ownerOf (tag kind : Byte) (payload : List Byte) (s : State) : State :=
  if kind = kindInfo then ownInfo tag payload s
  else if kind = kindConfigure then ownConfigure tag payload s
  else if kind = kindSetTarget then ownSetTarget tag payload s
  else if kind = kindGetTarget then ownGetTarget tag payload s
  else if kind = kindSetLadder then ownSetLadder tag payload s
  else if kind = kindGetLadder then ownGetLadder tag payload s
  else if kind = kindListSlots then ownListSlots tag payload s
  else if kind = kindGetSlot then ownGetSlot tag payload s
  else if kind = kindReadImage then ownReadImage tag payload s
  else if kind = kindReadModule then ownReadModule tag payload s
  else if kind = kindWriteUser then ownWriteUser tag payload s
  else if kind = kindRescan then ownRescan tag payload s
  else if kind = kindSetOverride then ownSetOverride tag payload s
  else if kind = kindClearOverrides then ownClearOverrides tag payload s
  else if kind = kindResolve then ownResolve tag payload s
  else if kind = kindGetProfile then ownGetProfile tag payload s
  else if kind = kindListProfiles then ownListProfiles tag payload s
  else if kind = kindApply then ownApply tag payload s
  else if kind = kindUnapply then ownUnapply tag payload s
  else if kind = kindDrop then ownDrop tag payload s
  else if kind = kindFetchNotices then ownFetchNotices tag payload s
  else if kind = kindCancel then ownCancel tag payload s
  else if kind = kindBusReset then ownBusReset tag payload s
  else if kind = kindReset then ownReset tag payload s
  else s

/-- A good frame: acceptance, then its owner (R156 to R158). -/
def takeFrame (tag kind : Byte) (payload : List Byte) (s : State) : State :=
  acceptFrame tag kind (ownerOf tag kind payload) s

/-! ### Characters on RXD (R150) -/

/-- The byte that data bits spell, least significant bit first (R150; log 25). -/
def characterByte (data : List Bool) : Byte := byte (data.foldr (fun bit n => bit.toNat + 2 * n) 0)

/-- The event that a character's ten levels on RXD are: with the stop bit high its byte is received, with the stop bit low the
character is dropped (R150; log 20). Levels that do not begin with a start bit (log 24), or are not ten, are no character. -/
def characterEvent : List Bool → Option Instr
  | false :: bits =>
    if bits.length = 9 then
      some (if bits.getLast? = some true then .byteReceived (characterByte (bits.take 8)) else .characterDropped)
    else none
  | _ => none

/-! ### The receiver (R152 to R155) -/

/-- A frame opens: START has been received (R152). No rule gives the count of bytes still expected until LEN sets it; the 0 is
the model's choice (log 23). -/
def rxOpened : Receiver := { phase := .length, expected := 0, buffer := [], gapRunning := true }

/-- The LEN byte is kept: so many body bytes are expected (R153). -/
def rxLength (len : Byte) : Receiver := { phase := .body, expected := len.toNat, buffer := [len], gapRunning := true }

/-- A LEN the receiver keeps (R153). -/
def lengthOk (len : Byte) : Bool := 2 ≤ len.toNat && len.toNat ≤ 122

/-- A byte placed in BODY: after the last one the two CHECK bytes are awaited (R152). -/
def rxBody (r : Receiver) (b : Byte) : Receiver :=
  if r.expected ≤ 1 then { phase := .check, expected := 2, buffer := r.buffer ++ [b], gapRunning := true }
  else { phase := .body, expected := r.expected - 1, buffer := r.buffer ++ [b], gapRunning := true }

/-- The low CHECK byte placed (R152). -/
def rxCheck (r : Receiver) (b : Byte) : Receiver :=
  { phase := .check, expected := 1, buffer := r.buffer ++ [b], gapRunning := true }

/-- A complete frame's two CHECK bytes are the CRC over the bytes before them (R151, R155). -/
def checkOk (bytes : List Byte) : Bool :=
  bytes.drop (bytes.length - 2) == le2 (crc (bytes.take (bytes.length - 2))).toNat

/-- A good frame's bytes from LEN on, handed to acceptance as tag, kind and payload (R151, R155). -/
def handGood (bytes : List Byte) (s : State) : State :=
  match bytes with
  | _ :: tag :: kind :: rest => takeFrame tag kind (rest.take (rest.length - 2)) s
  | _ => s

/-- A frame discarded by the receiver: back to HUNT, with its notice (R153 to R155). -/
def discardFrame (c : DropCause) (s : State) : State := raise (.linkFrameDropped c) { s with rx := receiverIdle }

/-- A complete frame judged: the state, and the bytes to take again after a discard (R155). -/
def judgeFrame (bytes : List Byte) (s : State) : State × List Byte :=
  if checkOk bytes then (handGood bytes { s with rx := receiverIdle }, []) else (discardFrame .check s, bytes)

/-- One byte taken by the receiver: the state, and the bytes to take again after a discard (R152 to R155). -/
def takeByte (b : Byte) (s : State) : State × List Byte :=
  match s.rx.phase with
  | .hunt => (if b = startByte then { s with rx := rxOpened } else s, [])
  | .length => if lengthOk b then ({ s with rx := rxLength b }, []) else (discardFrame .length s, [b])
  | .body => ({ s with rx := rxBody s.rx b }, [])
  | .check =>
    if s.rx.expected ≤ 1 then judgeFrame (s.rx.buffer ++ [b]) s else ({ s with rx := rxCheck s.rx b }, [])

/-- Bytes taken one after another, those of a discarded frame again before the rest; while the receiver takes no bytes they
are dropped (R155, R165). The first argument bounds the number of bytes taken. -/
def takeBytes : Nat → List Byte → State → State
  | 0, _, s => s
  | _ + 1, [], s => s
  | k + 1, b :: bs, s =>
    if linkOpen s then takeBytes k ((takeByte b s).2 ++ bs) (takeByte b s).1 else s

/-- A bound no pass exceeds: every pass takes fewer bytes than the one before (R155). -/
def passBound (held : Nat) : Nat := (held + 3) * (held + 3)

/-- BYTE_RECEIVED (R152 to R157). -/
def execByteReceived (b : Byte) (s : State) : Answer := .next (takeBytes (passBound s.rx.buffer.length) [b] s)

/-- CHARACTER_DROPPED: it is not a byte, it restarts no timer (R150). -/
def execCharacterDropped (s : State) : Answer := .next s

/-- GAP_EXPIRY: the frame in progress is discarded, nothing of it is taken again (R154). -/
def execGapExpiry (s : State) : Answer := .next (if s.rx.gapRunning then discardFrame .gap s else s)

/-- A good frame of a kind that is no request kind (R157). -/
def execUnknownKind (tag kind : Byte) (payload : List Byte) (s : State) : Answer := .next (takeFrame tag kind payload s)

/-! ### The transmitter (R161) -/

/-- REPLY_SEND_START: with TXD idle the oldest reply leaves the list and starts being sent (R161). -/
def execReplySendStart (s : State) : Answer :=
  match s.sending, s.tx with
  | none, r :: rest => .next { s with sending := some r, tx := rest }
  | none, [] => .next s
  | some _, _ => .next s

/-- The reply being sent has left the part; in CLOSING the full reset takes effect once the RESET's OK, the last reply, has
left (R161, R165; log 12). -/
def replyLeft (s : State) : State :=
  if s.closing ∧ s.tx = [] then fullReset { s with sending := none } else { s with sending := none }

/-- REPLY_SENT (R161, R165). -/
def execReplySent (s : State) : Answer :=
  match s.sending with
  | some _ => .next (replyLeft s)
  | none => .next s

end Sys2Proof.Machine
end

