-- ==== Sys2Proof/Machine/PresenceCommands.lean ====
section
/-! DEFINITION. The Presence Monitor's events: presence low, presence high with the removal, the settle expiry. -/

namespace Sys2Proof.Machine

/-- PRESENCE_LOW: an EMPTY slot goes to SETTLING, any other is unchanged (R44). While RESET_N is asserted a change of level
is no event (R43). -/
def execPresenceLow (n : SlotNo) (s : State) : Answer :=
  .next (if s.resetAsserted then s else startSettling n { s with pres := s.pres.set n false })

/-- The slot record after a removal, before clashes and generation (R48, steps 1 and 2). -/
def removedSlot (r : Slot) : Slot :=
  { discardImage r with state := .empty, present := false, cause := none, overrides := [] }

/-- A USER WRITE in flight for the removed slot is stopped at once: its tag is replied REMOVED, and the job goes on to its
stop condition without a claim (R87). -/
def abandonWrite (n : SlotNo) (s : State) : State :=
  match s.inFlight with
  | some f =>
    match f.job.work with
    | .userWrite m _ _ =>
      if m = n then
        { endTags .removed [] f.job.tags s with
          inFlight := some { f with job := { f.job with tags := [] }, activity := .stopCondition } }
      else s
    | .scan _ => s
    | .moduleRead _ _ _ => s
    | .recover => s
  | none => s

/-- Every waiting job for the removed slot leaves the queue, its tags replied REMOVED in queue order (R86). -/
def purgeJobs (n : SlotNo) (s : State) : State :=
  { endTags .removed [] ((s.jobs.filter (isForSlot n)).flatMap Job.tags) s with
    jobs := s.jobs.filter fun j => !isForSlot n j }

/-- A SCAN or MODULE READ in flight for the removed slot loses its presence claim and is marked to stop (R85, R87). -/
def stopReading (n : SlotNo) (s : State) : State :=
  match s.inFlight with
  | some f =>
    match f.job.work with
    | .scan m => if m = n then markToStop { f with job := { f.job with presence := false } } s else s
    | .moduleRead m _ _ => if m = n then markToStop f s else s
    | .userWrite _ _ _ => s
    | .recover => s
  | none => s

/-- A removal: the slot's record and its notices, then its jobs (R48, R86, R87, R141, R162). -/
def removal (n : SlotNo) (s : State) : State :=
  stopReading n (purgeJobs n (abandonWrite n
    (slotEvent (fun m => m == n) (s.slots.set n (removedSlot (s.slots.get n))) [.slotRemoved n] s)))

/-- A presence high, by the state of the slot (R45). -/
def presenceHigh (n : SlotNo) (s : State) : State :=
  match (s.slots.get n).state with
  | .empty => s
  | .settling => { s with slots := s.slots.set n { s.slots.get n with state := .empty, settle := none } }
  | .reading => removal n s
  | .valid => removal n s
  | .suspect => removal n s
  | .unusable => removal n s
  | .unreadable => removal n s

/-- PRESENCE_HIGH (R45, R48). While RESET_N is asserted a change of level is no event (R43). -/
def execPresenceHigh (n : SlotNo) (s : State) : Answer :=
  .next (if s.resetAsserted then s else presenceHigh n { s with pres := s.pres.set n true })

/-- The record of a slot whose settle time has ended, by the bus state (R46). -/
def insertedSlot (faulted : Bool) (r : Slot) : Slot :=
  if faulted then { r with present := true, settle := none, state := .unreadable, cause := some .bus }
  else { r with present := true, settle := none, state := .reading }

/-- The end of a settle time (R46). -/
def insertion (n : SlotNo) (s : State) : State :=
  let t := { s with slots := s.slots.set n (insertedSlot (s.bus == .faulted) (s.slots.get n)) }
  raise (.slotInserted n) (if s.bus = .faulted then t else demandScan n true [] t)

/-- SETTLE_EXPIRY: the timer runs only in SETTLING (R46, R47; log 3). -/
def execSettleExpiry (n : SlotNo) (s : State) : Answer :=
  .next (if (s.slots.get n).state = .settling then insertion n s else s)

end Sys2Proof.Machine
end

