-- ==== Sys2Proof/Machine/ResetCommands.lean ====
section
/-! DEFINITION. The two ends of a line reset: RESET_N asserted, RESET_N released. -/

namespace Sys2Proof.Machine

/-- LINE_RESET: every block takes its line-reset values at once; the transmit order is lost, a reply being sent is cut
short, the job in flight is abandoned (R41, R92, R104, R129, R149, R166, R199, R201). -/
def execLineReset (s : State) : Answer := .next { State.reset with pending := s.pending }

/-- The end of a line reset: RATE and the eight presence lines are sampled (R43, R63, R150, R166). -/
def releaseReset (rateHigh : Bool) (presHigh : Eight Bool) (s : State) : State :=
  samplePresence { s with resetAsserted := false, rateHigh := rateHigh, pres := presHigh }

/-- LINE_RESET_RELEASE, which can come only while RESET_N is asserted (log 3). -/
def execLineResetRelease (rateHigh : Bool) (presHigh : Eight Bool) (s : State) : Answer :=
  .next (if s.resetAsserted then releaseReset rateHigh presHigh s else s)

end Sys2Proof.Machine
end

