-- ==== Sys2Proof/Machine/ResolverCommands.lean ====
section
/-! DEFINITION. The completion of a resolution. -/

namespace Sys2Proof.Machine

/-- The BUILDING entry `e` with snapshot `sn` completes with the outcome of the working record: it is judged, its RESOLVE is
replied, and the next QUEUED entry is handed over (R110, R136, R137, R138). -/
def resolutionEnd (w : Work) (e : Entry) (tag : Byte) (sn : Snapshot) (s : State) : State :=
  let done := { e with state := judge s sn (resolveWork w) }
  let reply := completionReply done
  handOver (endRequest reply.1 reply.2 tag { setEntry e.handle done s with work := none })

/-- RESOLUTION_COMPLETE: with the Resolver IDLE there is nothing to complete (log 3). -/
def execResolutionComplete (s : State) : Answer :=
  match s.work, s.entries.find? isBuilding with
  | some w, some e =>
    match e.state with
    | .building tag sn => .next (resolutionEnd w e tag sn s)
    | .queued _ => .next s
    | .valid _ _ => .next s
    | .stale _ _ => .next s
    | .failed _ _ => .next s
  | some _, none => .next s
  | none, _ => .next s

end Sys2Proof.Machine
end

