-- ==== Sys2Proof/Machine/Dispatch.lean ====
section
/-! DEFINITION. The effect of a command: one arm for each row of the table. -/

namespace Sys2Proof.Machine

open Sys2Proof

def exec (i : Instr) (s : State) : Host.Outcome State Fault Refusal :=
  match i with
  | .lineReset => Sys2Proof.Machine.execLineReset s
  | .lineResetRelease rateHigh presHigh => Sys2Proof.Machine.execLineResetRelease rateHigh presHigh s
  | .presenceLow n => Sys2Proof.Machine.execPresenceLow n s
  | .presenceHigh n => Sys2Proof.Machine.execPresenceHigh n s
  | .settleExpiry n => Sys2Proof.Machine.execSettleExpiry n s
  | .segmentDone bytes => Sys2Proof.Machine.execSegmentDone bytes s
  | .transactionFailed dataAcked => Sys2Proof.Machine.execTransactionFailed dataAcked s
  | .retryTimerExpiry => Sys2Proof.Machine.execRetryTimerExpiry s
  | .stuckBus dataAcked => Sys2Proof.Machine.execStuckBus dataAcked s
  | .recoveryEnd sdaLooks sclHigh sdaHigh => Sys2Proof.Machine.execRecoveryEnd sdaLooks sclHigh sdaHigh s
  | .moduleReadDone bytes => Sys2Proof.Machine.execModuleReadDone bytes s
  | .pageWriteDone => Sys2Proof.Machine.execPageWriteDone s
  | .pollTimerExpiry => Sys2Proof.Machine.execPollTimerExpiry s
  | .pollDone acked => Sys2Proof.Machine.execPollDone acked s
  | .readBackDone bytes => Sys2Proof.Machine.execReadBackDone bytes s
  | .userWriteAbandonEnd => Sys2Proof.Machine.execUserWriteAbandonEnd s
  | .resolutionComplete => Sys2Proof.Machine.execResolutionComplete s
  | .characterDropped => Sys2Proof.Machine.execCharacterDropped s
  | .byteReceived b => Sys2Proof.Machine.execByteReceived b s
  | .gapExpiry => Sys2Proof.Machine.execGapExpiry s
  | .unknownKind tag kind payload => Sys2Proof.Machine.execUnknownKind tag kind payload s
  | .info tag payload => Sys2Proof.Machine.execInfo tag payload s
  | .configure tag payload => Sys2Proof.Machine.execConfigure tag payload s
  | .setTarget tag payload => Sys2Proof.Machine.execSetTarget tag payload s
  | .getTarget tag payload => Sys2Proof.Machine.execGetTarget tag payload s
  | .setLadder tag payload => Sys2Proof.Machine.execSetLadder tag payload s
  | .getLadder tag payload => Sys2Proof.Machine.execGetLadder tag payload s
  | .listSlots tag payload => Sys2Proof.Machine.execListSlots tag payload s
  | .getSlot tag payload => Sys2Proof.Machine.execGetSlot tag payload s
  | .readImage tag payload => Sys2Proof.Machine.execReadImage tag payload s
  | .readModule tag payload => Sys2Proof.Machine.execReadModule tag payload s
  | .writeUser tag payload => Sys2Proof.Machine.execWriteUser tag payload s
  | .rescan tag payload => Sys2Proof.Machine.execRescan tag payload s
  | .setOverride tag payload => Sys2Proof.Machine.execSetOverride tag payload s
  | .clearOverrides tag payload => Sys2Proof.Machine.execClearOverrides tag payload s
  | .resolve tag payload => Sys2Proof.Machine.execResolve tag payload s
  | .getProfile tag payload => Sys2Proof.Machine.execGetProfile tag payload s
  | .listProfiles tag payload => Sys2Proof.Machine.execListProfiles tag payload s
  | .applyProfile tag payload => Sys2Proof.Machine.execApply tag payload s
  | .unapplyProfile tag payload => Sys2Proof.Machine.execUnapply tag payload s
  | .dropProfile tag payload => Sys2Proof.Machine.execDrop tag payload s
  | .fetchNotices tag payload => Sys2Proof.Machine.execFetchNotices tag payload s
  | .cancel tag payload => Sys2Proof.Machine.execCancel tag payload s
  | .busReset tag payload => Sys2Proof.Machine.execBusReset tag payload s
  | .resetSession tag payload => Sys2Proof.Machine.execResetSession tag payload s
  | .resetFull tag payload => Sys2Proof.Machine.execResetFull tag payload s
  | .replySendStart => Sys2Proof.Machine.execReplySendStart s
  | .replySent => Sys2Proof.Machine.execReplySent s

end Sys2Proof.Machine
end

