-- ==== Sys2Proof/Safety.lean ====
section
/-! DEFINITION. What every step keeps: the bounds and agreements the rules state of each block. `Inv` is all of them. -/

namespace Sys2Proof.Machine

/-! ### The link and the notices -/

/-- The places of R156, the outstanding requests of R159: at most 4, distinct tags, none 0; none in CLOSING (R165). -/
def LinkInv (s : State) : Prop :=
  s.inbox.length ≤ Config.maxOutstanding ∧ s.tx.length + s.inbox.length ≤ Config.replyPlaces ∧
    (s.inbox.map Outstanding.tag).Nodup ∧ (∀ o ∈ s.inbox, o.tag ≠ 0) ∧ (s.closing = true → s.inbox = [])

/-- A receiver in one of the situations of R152; the count 0 in HUNT and LENGTH is the model's (log 23). -/
def RxInv (r : Receiver) : Prop :=
  match r.phase, r.buffer with
  | .hunt, _ => r = receiverIdle
  | .length, _ => r = rxOpened
  | .body, len :: rest =>
    r.gapRunning = true ∧ lengthOk len = true ∧ 1 ≤ r.expected ∧ rest.length + r.expected = len.toNat
  | .body, [] => False
  | .check, len :: rest =>
    r.gapRunning = true ∧ lengthOk len = true ∧ 1 ≤ r.expected ∧ r.expected ≤ 2 ∧
      rest.length + r.expected = len.toNat + 2
  | .check, [] => False

/-- The sequence numbers before `next` (R194). -/
def seqRun (next : Word16) (k : Nat) : List Word16 := (List.range k).map fun i => next - BitVec.ofNat 16 (k - i)

/-- A NOTICES_LOST tally is 1 to 255 (R196). -/
def tallyOk (n : Notice) : Bool :=
  match n.body with
  | .noticesLost t => 1 ≤ t && t ≤ 255
  | _ => true

/-- The Notice Queue: at most 15 ordinary entries and one NOTICES_LOST (R195), tallies (R196), consecutive numbers (R194),
ALERT_N (R198). -/
def NoticeInv (s : State) : Prop :=
  ordinaryCount s.notices ≤ Config.maxOrdinaryNotices ∧ s.notices.countP isLost ≤ 1 ∧ (∀ n ∈ s.notices, tallyOk n = true) ∧
    s.notices.map Notice.seq = seqRun s.nextSeq s.notices.length ∧
    s.alertN = alertLevel s.notices s.config.alertEnable

/-- While RESET_N is asserted every block stands at its line-reset values (R92, R149, R166, R199, R201). -/
def ResetInv (s : State) : Prop := s.resetAsserted = true → s = { State.reset with pending := s.pending }

/-! ### Settings -/

/-- The Target Record, the ladder and the settle time are in their ranges (R93, R99, R102). -/
def SettingsInv (s : State) : Prop :=
  targetOk s.target = true ∧ ladderOk s.ladder = true ∧ settleTimeOk s.config.settleMs = true

/-! ### The Slot Table -/

/-- An override the part accepts (R58). -/
def overrideOk (o : Override) : Prop := o.param ∈ overridableParams ∧ 1 ≤ o.value ∧ o.value ≤ 1000000

/-- A slot record's fields agree with its state (R41, R47, R60). -/
def SlotOk (r : Slot) : Prop :=
  r.present = occupied r.state ∧ (r.settle.isSome = true ↔ r.state = .settling) ∧
    (∀ ms, r.settle = some ms → settleTimeOk ms = true) ∧ (r.cause.isSome = true ↔ r.state = .unreadable) ∧
    r.image.isSome = classified r.state ∧ r.key.isSome = r.image.isSome ∧
    (r.image = none → r.faults = [] ∧ r.more = false) ∧
    r.overrides.length ≤ Config.maxOverrides ∧ (r.overrides.map Override.param).Nodup ∧
    (∀ o ∈ r.overrides, overrideOk o) ∧ (occupied r.state = false → r.overrides = [])

/-- An image copy has 256 bytes and 16 marks, the first 13 of them always valid (R41). -/
def CopyOk (c : ImageCopy) : Prop := c.bytes.length = 256 ∧ c.marks.length = 16 ∧ (c.marks.take 13).all id = true

/-- Every slot record agrees with itself. -/
def SlotInv (s : State) : Prop :=
  ∀ n : SlotNo, SlotOk (s.slots.get n) ∧ ∀ c, (s.slots.get n).image = some c → CopyOk c

/-- A slot that holds a copy shows the verdict on that very copy: classification, fault list, `more` flag, key (R23, R37). -/
def VerdictInv (s : State) : Prop :=
  ∀ n : SlotNo, ∀ c, (s.slots.get n).image = some c →
    (s.slots.get n).state = (validate c.bytes).classification ∧ (s.slots.get n).faults = (validate c.bytes).faults ∧
      (s.slots.get n).more = (validate c.bytes).more ∧ (s.slots.get n).key = some (validate c.bytes).key

/-- Every clash set is the one R38 gives for the keys held. -/
def ClashInv (s : State) : Prop := ∀ n : SlotNo, (s.slots.get n).clash = clashOf s.slots n

/-- Out of a line reset, a slot is EMPTY exactly while its presence line is high (R42 to R45, R48). -/
def PresenceInv (s : State) : Prop :=
  s.resetAsserted = false → ∀ n : SlotNo, s.pres.get n = true ↔ (s.slots.get n).state = .empty

/-- The job is a SCAN of slot `n` with a presence claim. -/
def presenceScanOf (n : SlotNo) (j : Job) : Bool := isScanOf n j && j.presence

/-- A slot in READING has a presence scan that waits, or is in flight without a stop mark (R46, R50, R56). -/
def ReadingInv (s : State) : Prop :=
  ∀ n : SlotNo, (s.slots.get n).state = .reading →
    s.jobs.any (presenceScanOf n) = true ∨
      ∃ f, s.inFlight = some f ∧ presenceScanOf n f.job = true ∧ f.stopMark = false

/-! ### The sideband bus -/

/-- The bus state and the job in flight agree; no job waits on an IDLE or a FAULTED bus (R65, R70, R82). -/
def BusInv (s : State) : Prop :=
  match s.bus, s.inFlight with
  | .idle, none => s.jobs = []
  | .faulted, none => s.jobs = []
  | .busy, some f => f.job.work ≠ .recover
  | .recovering, some f => f.job.work = .recover
  | .recovering, none => True
  | .idle, some _ => False
  | .faulted, some _ => False
  | .busy, none => False

/-- A job's arguments are in the ranges of R67 and R77. -/
def workOk : JobWork → Bool
  | .scan _ => true
  | .moduleRead _ off len => 1 ≤ len && len ≤ 64 && off + len ≤ 256
  | .userWrite _ off data => 208 ≤ off && 1 ≤ data.length && data.length ≤ 16 && writeFits off data.length
  | .recover => true

/-- The job is a SCAN. -/
def isScan (j : Job) : Bool :=
  match j.work with
  | .scan _ => true
  | .moduleRead _ _ _ => false
  | .userWrite _ _ _ => false
  | .recover => false

/-- The slot of a SCAN. -/
def scanSlot (j : Job) : Option SlotNo :=
  match j.work with
  | .scan n => some n
  | .moduleRead _ _ _ => none
  | .userWrite _ _ _ => none
  | .recover => none

/-- A waiting job: arguments in range, at least one claim, a presence claim on a SCAN only, one tag on the other kinds, its
slot occupied (R67, R68, R86). -/
def WaitingOk (s : State) (j : Job) : Prop :=
  workOk j.work = true ∧ claimless j = false ∧ (j.presence = true → isScan j = true) ∧
    (isScan j = false → j.tags.length = 1) ∧
    ∀ n, slotOfWork j.work = some n → occupied (s.slots.get n).state = true

/-- The Job Queue: every job as above, never two SCANs of one slot (R67, R70). -/
def QueueInv (s : State) : Prop := (∀ j ∈ s.jobs, WaitingOk s j) ∧ (s.jobs.filterMap scanSlot).Nodup

/-- What a job in flight does agrees with its kind and progress (R67, R72, R74, R77, R78). -/
def progressOk (f : InFlight) : Bool :=
  match f.job.work with
  | .scan _ =>
    (f.activity == .transaction || f.activity == .retryWait) && f.bytesRead.length % 16 == 0 && f.bytesRead.length < 256
  | .moduleRead _ _ _ => f.activity == .transaction || f.activity == .retryWait
  | .userWrite _ _ _ =>
    match f.activity, f.phase with
    | .transaction, .writing => true
    | .retryWait, .writing => true
    | .pollWait, .polling => f.dataAcked && f.polls < 10
    | .poll, .polling => f.dataAcked && 1 ≤ f.polls && f.polls ≤ 10
    | .transaction, .readBack => f.dataAcked
    | .retryWait, .readBack => f.dataAcked
    | .stopCondition, _ => f.job.tags.isEmpty
    | _, _ => false
  | .recover => f.activity == .recovery

/-- The job is a SCAN or a MODULE READ, the kinds a stop mark can be set on (R85). -/
def isReading (j : Job) : Bool :=
  match j.work with
  | .scan _ => true
  | .moduleRead _ _ _ => true
  | .userWrite _ _ _ => false
  | .recover => false

/-- A job in flight (R67, R72, R85): arguments and progress in range; a presence claim on a SCAN only; a SCAN or MODULE READ
without a claim is marked; a marked job is a SCAN or MODULE READ in a transaction, without a presence claim; an unmarked job
that still works on its slot finds it occupied. -/
def FlightOk (s : State) (f : InFlight) : Prop :=
  workOk f.job.work = true ∧ progressOk f = true ∧ f.failed < 4 ∧ (f.job.presence = true → isScan f.job = true) ∧
    (isScan f.job = false → f.job.tags.length ≤ 1) ∧
    (isReading f.job = true → f.stopMark = false → claimless f.job = false) ∧
    (f.stopMark = true → isReading f.job = true ∧ f.activity = .transaction ∧ f.job.presence = false) ∧
    ∀ n, slotOfWork f.job.work = some n → f.stopMark = false → f.activity ≠ .stopCondition →
      occupied (s.slots.get n).state = true

/-- The job in flight is as above. -/
def FlightInv (s : State) : Prop := ∀ f, s.inFlight = some f → FlightOk s f

/-! ### Claims -/

/-- The host tags on bus jobs, waiting and in flight. -/
def busTags (s : State) : List Byte :=
  s.jobs.flatMap Job.tags ++
    match s.inFlight with
    | some f => f.job.tags
    | none => []

/-- The request tags of profile entries. -/
def profileTags (s : State) : List Byte := s.entries.filterMap requestTag

/-- The tags outstanding with a claim of one form. -/
def claimTags (c : Claim) (s : State) : List Byte := (s.inbox.filter fun o => o.claim == c).map Outstanding.tag

/-- Every outstanding request is exactly one claim: a tag on one bus job, or on one QUEUED or BUILDING entry, and there is no
other host tag (R68, R159). -/
def ClaimInv (s : State) : Prop :=
  (busTags s).Perm (claimTags .busJob s) ∧ (profileTags s).Perm (claimTags .profile s)

/-! ### The Profile Table -/

/-- The snapshot of an entry that has one (R130). -/
def snapshotOf (e : Entry) : Option Snapshot :=
  match e.state with
  | .queued _ => none
  | .building _ sn => some sn
  | .valid sn _ => some sn
  | .stale sn _ => some sn
  | .failed sn _ => some sn

/-- The entry is VALID or STALE (R130). -/
def holdsResult (e : Entry) : Bool :=
  match e.state with
  | .valid _ _ => true
  | .stale _ _ => true
  | .queued _ => false
  | .building _ _ => false
  | .failed _ _ => false

/-- An entry: a handle, an ascending set of 1 to 8 slots, the mark only in VALID or STALE, the snapshot of its own set; a
VALID one has the current generations (R130, R139, R144). -/
def EntryOk (s : State) (e : Entry) : Prop :=
  e.handle ≠ 0 ∧ e.request.slots ≠ [] ∧ ascending e.request.slots = e.request.slots ∧
    (e.applied = true → holdsResult e = true) ∧
    (∀ sn, snapshotOf e = some sn → sn.gens.map Prod.fst = e.request.slots) ∧
    (∀ sn, snapshotOf e = some sn → isValid e = true → snapshotCurrent s sn = true)

/-- The Profile Table: six entries, distinct handles, one applied at most, the handle counter (R130 to R133, R144). -/
def TableInv (s : State) : Prop :=
  s.entries.length ≤ Config.profileEntries ∧ (s.entries.map Entry.handle).Nodup ∧ s.nextHandle ≠ 0 ∧
    s.entries.countP Entry.applied ≤ 1 ∧ ∀ e ∈ s.entries, EntryOk s e

/-- The Resolver: WORKING exactly while one entry is BUILDING, on that entry's request; no entry waits while it is IDLE
(R105, R107, R136). -/
def ResolverInv (s : State) : Prop :=
  match s.work with
  | none => s.entries.countP isBuilding = 0 ∧ s.entries.countP isQueued = 0
  | some w => s.entries.countP isBuilding = 1 ∧ ∀ e ∈ s.entries, isBuilding e = true → e.request = w.request

/-- All of it. -/
structure Inv (s : State) : Prop where
  link : LinkInv s
  rx : RxInv s.rx
  notices : NoticeInv s
  reset : ResetInv s
  settings : SettingsInv s
  slots : SlotInv s
  verdict : VerdictInv s
  clash : ClashInv s
  presence : PresenceInv s
  reading : ReadingInv s
  bus : BusInv s
  queue : QueueInv s
  flight : FlightInv s
  claims : ClaimInv s
  table : TableInv s
  resolver : ResolverInv s

/-! ### Words the statements use -/

/-- A frame with this tag and kind passes acceptance: it arrives, a place is free, the tag is not 0 and not outstanding, and
four requests are not outstanding unless the kind is FETCH NOTICES, CANCEL or RESET (R156, R157). -/
def Taken (s : State) (tag kind : Byte) : Prop :=
  s.resetAsserted = false ∧ s.closing = false ∧ s.tx.length + s.inbox.length < 8 ∧ tag ≠ 0 ∧
    (∀ o ∈ s.inbox, o.tag ≠ tag) ∧ (s.inbox.length < 4 ∨ kind = 0x30 ∨ kind = 0x31 ∨ kind = 0x33)

/-- The state with one more reply at the end of the transmit order. -/
def withReply (tag kind : Byte) (st : Status) (payload : List Byte) (s : State) : State :=
  { s with tx := s.tx ++ [{ tag := tag, kind := kind, status := st, payload := payload }] }

/-- The KIND byte of the outstanding request that holds a tag. -/
def kindOf (s : State) (tag : Byte) : Byte := ((s.inbox.find? fun o => o.tag == tag).map Outstanding.kind).getD 0

/-- The state after some outstanding requests have been replied alike, in the order of their tags (R159, R162). -/
def repliedTags (st : Status) (payload : List Byte) (tags : List Byte) (s : State) : State :=
  { s with
    tx := s.tx ++ tags.map fun g => { tag := g, kind := kindOf s g, status := st, payload := payload }
    inbox := s.inbox.filter fun o => !tags.contains o.tag }

/-- The count of one parameter at a period (R120): the least number that is at least 1, at least the floor, and times the period
covers every copy's effective time less the allowance. -/
def IsCount (w : Work) (period floor : Nat) (q : Param) (k : Nat) : Prop :=
  let enough := fun j : Nat =>
    1 ≤ j ∧ floor ≤ j ∧ ∀ c ∈ w.copies, effectiveOf q c - w.target.allowance ≤ ((j * period : Nat) : Int)
  enough k ∧ ∀ j, enough j → k ≤ j

/-- The nine counts at a period, CYC raised to the sum of HLD and CLS where its own count is less (R120, R121). -/
def AreCounts (w : Work) (period : Nat) (c : Nine Nat) : Prop :=
  let f := w.target.floors
  IsCount w period f.opn .opn c.opn ∧ IsCount w period f.cls .cls c.cls ∧ IsCount w period f.hld .hld c.hld ∧
    (∃ k, IsCount w period f.cyc .cyc k ∧ c.cyc = max k (c.hld + c.cls)) ∧
    IsCount w period f.rfr .rfr c.rfr ∧ IsCount w period f.trn .trn c.trn ∧ IsCount w period f.rcl .rcl c.rcl ∧
    IsCount w period f.wrc .wrc c.wrc ∧ IsCount w period f.win .win c.win

/-- The refresh interval at a period (R115, R122): the greatest number of periods within every copy's effective refresh time,
halved for a hot resolution of a module without EXT_NATIVE. -/
def IsInterval (w : Work) (period r : Nat) : Prop :=
  let within := fun j : Nat => ∀ c ∈ w.copies,
    j * period ≤ copyRefreshBase c * (if w.request.hot = true ∧ copyExtNative c = false then 25000 else 50000)
  within r ∧ ∀ j, within j → j ≤ r

/-- The merged budget (R123): UNLIMITED without a numeric one, otherwise the smallest count and the longest window of them. -/
def IsBudget (cs : List SlotCopy) : ProfileBudget → Prop
  | .unlimited => ∀ c ∈ cs, ∀ k win, copyBudget c ≠ some (.numeric k win)
  | .limited count win =>
    (∃ c ∈ cs, ∃ v, copyBudget c = some (.numeric count v)) ∧ (∃ c ∈ cs, ∃ k, copyBudget c = some (.numeric k win)) ∧
      ∀ c ∈ cs, ∀ k v, copyBudget c = some (.numeric k v) → count ≤ k ∧ v ≤ win

/-- The bytes arrive on RXD one after another. -/
def feedBytes : List Byte → State → Answer
  | [], s => .next s
  | b :: bs, s =>
    match exec (.byteReceived b) s with
    | .next t => feedBytes bs t
    | .fault f => .fault f
    | .refused r => .refused r

end Sys2Proof.Machine
end

