-- ==== Sys2Proof/Certificates/Slice0/Obligations.lean ====
section
/-! DEFINITION. The statements for the provers: what the commands do, and what every step keeps. -/

open Sys2Proof Sys2Proof.Machine

/-- O1. With command c at the front of the queue, step is exec of c on the state with the queue's rest; with an empty
queue step answers the same state, which is the model's choice (log 1). (00_scope.md, Events and time) -/
def Obligations.StepRunsFrontCommand : Prop :=
  (∀ (c : Instr) (rest : List Instr) (s : State), s.pending = c :: rest → step s = exec c { s with pending := rest }) ∧
    ∀ s : State, s.pending = [] → step s = .next s

/-- O2. Every command answers a next state in every state, with the queue of commands unchanged: the spec's errors are
replies, notices, slot states, the bus state FAULTED and FAILED entries. The queue is the model's own (log 1), and
that an event which cannot occur in the state it meets answers that same state is the model's choice (log 3).
(00_scope.md, Events and time; 09_request_reference.md, Arguments and replies in general) -/
def Obligations.NoCommandStops : Prop :=
  ∀ (c : Instr) (s : State), ∃ t, exec c s = .next t ∧ t.pending = s.pending

/-- O3. LINE_RESET completes in every state with the values R41, R92, R93, R94, R99, R102, R129, R130, R132, R133, R166,
R194, R199 and R201 give for a line reset, ALERT_N released, the queue kept. That the eight lines are held high and the
rate low until the release samples them is the model's choice (log 2), and so are the pulse count 0 (log 11) and the
receiver's count 0 (log 23). While RESET_N is asserted SCL, SDA and ALERT_N are released and TXD is high.
LINE_RESET_RELEASE while RESET_N is asserted completes: the rate is the level of RATE, each EMPTY slot whose line is low
goes to SETTLING with the settle time in force, and nothing else changes. (03_slots_presence_and_overrides.md R41;
04_the_sideband_bus_and_job_queue.md R92; 05_target_record_and_period_ladder.md R93, R94, R99, R102;
07_the_profile_table.md R149; 08_host_link_and_request_flow.md R166; 10_notices_and_the_alert_line.md R199, R201;
03_slots_presence_and_overrides.md R43, R63; 08_host_link_and_request_flow.md R150, R166; 11_formats_and_signals.md
R208) -/
def Obligations.LineResetAndRelease : Prop :=
  (∀ s : State, exec .lineReset s = .next
    { pending := s.pending, resetAsserted := true, pres := ⟨true, true, true, true, true, true, true, true⟩, alertN := true
      rateHigh := false, rx := { phase := .hunt, expected := 0, buffer := [], gapRunning := false }, inbox := [], tx := []
      sending := none, closing := false
      slots := Eight.ofFn fun _ =>
        { state := .empty, present := false, gen := 0, image := none, faults := [], more := false, key := none, clash := []
          cause := none, overrides := [], settle := none }
      bus := .idle, jobs := [], inFlight := none, lineSpeed := .khz100, pulses := 0
      config := { settleMs := 40, busSpeed := .khz100, alertEnable := true }
      target :=
        { periodMin := 750, periodMax := 3000, latencyMin := 5, latencyMax := 24
          floors := { opn := 0, cls := 0, hld := 0, cyc := 0, rfr := 0, trn := 4, rcl := 4, wrc := 0, win := 0 }
          allowance := 0, expectedWidth := none, requireBudget := false }
      targetGen := 0, ladder := [750, 833, 938, 1071, 1250, 1500, 1875, 2500], work := none, entries := []
      nextHandle := 1, nextCreation := 0, notices := [], nextSeq := 0 }) ∧
  (∀ s : State, s.resetAsserted = true →
    busLines s = .released ∧ txdFrame s = none ∧ txdLevels s = [] ∧ (ResetInv s → s.alertN = true)) ∧
  (∀ (rate : Bool) (pres : Eight Bool) (s : State), s.resetAsserted = true →
    exec (.lineResetRelease rate pres) s = .next
      { s with
        resetAsserted := false, rateHigh := rate, pres := pres
        slots := Eight.ofFn fun n =>
          if pres.get n = false ∧ (s.slots.get n).state = .empty then
            { s.slots.get n with state := .settling, settle := some s.config.settleMs }
          else s.slots.get n })

/-- O4. For every 256-byte image the faults found are, in this order and from the stored bytes alone: the CRC over bytes
0 to 175 or 0 to 143 as identity covered says, against the stored check; major revision, kind, class; width and rank
codes; grain, or else each time not positive, the period order and the cycle; the latency list; refresh base and
thermal flags; budget; for BUFFERED the buffer kind and each drive level; maker bank bytes; year and week; the first
part text character outside the set. The check register takes each byte into its high eight bits and is advanced
eight times. The identity key is the eight stored bytes of R20. (01_the_module_descriptor_image.md R4 to R22;
02_descriptor_validation.md R24, R27 to R36; 11_formats_and_signals.md R203) -/
def Obligations.ImageFaultsByTheBytes : Prop :=
  (crc [] = 0xFFFF ∧ ∀ (bs : List Byte) (x : Byte),
    let advance := fun r : BitVec 16 => if r.msb = true then (r <<< 1) ^^^ 0x8005 else r <<< 1
    crc (bs ++ [x]) = advance^[8] (crc bs ^^^ (x.setWidth 16 <<< 8))) ∧
  ∀ img : List Byte, img.length = 256 →
    let b := fun k : Nat => (img.getD k 0).toNat
    let word := fun k : Nat => b k + 256 * b (k + 1)
    let fine := fun k : Nat => (img.getD k 0).toInt
    let grain : Int := if b 0x05 = 0 then 100 else 250
    let wide := fun k : Nat => (word k : Int) * grain
    let times : Times :=
      { fper := wide 0x06 + fine 0x08 * 2, sper := wide 0x09, acc := wide 0x14 + fine 0x16 * 2
        opn := wide 0x17 + fine 0x19 * 2, cls := wide 0x1A + fine 0x1C * 2, hld := wide 0x1D
        cyc := wide 0x1F + fine 0x21 * 2, rfr := wide 0x22, trn := b 0x24 * grain, rcl := b 0x25 * grain
        wrc := b 0x26 * grain, win := wide 0x27 }
    let one := fun (found : Bool) (x : ImageFault) => if found = true then [x] else []
    let bank := fun k : Nat => (List.range 8).countP (fun i => (img.getD k 0).getLsbD i) % 2 == 0 || b k / 32 % 4 != 0
    let digits := fun k : Nat => b k / 16 ≤ 9 && b k % 16 ≤ 9
    let number := fun k : Nat => 10 * (b k / 16) + b k % 16
    let character := fun x : Nat =>
      x == 0x20 || (0x2D ≤ x && x ≤ 0x39) || (0x41 ≤ x && x ≤ 0x5A) || x == 0x5F || (0x61 ≤ x && x ≤ 0x7A)
    imageFaults img =
      one ((crc (img.take (if 128 ≤ b 0x00 then 176 else 144))).toNat != word 0xB0) .crcMismatch ++
      one (b 0x01 / 16 != 1) .formatMajor ++ one (b 0x02 != 0x41 && b 0x02 != 0x42) .kindUnknown ++
      one (2 ≤ b 0x03) .classUnknown ++ one (b 0x04 % 4 == 3) .widthUnknown ++ one (b 0x04 / 4 % 4 == 3) .ranksUnknown ++
      (if 2 ≤ b 0x05 then [.grainUnknown]
      else
        (([.fper, .sper, .acc, .opn, .cls, .hld, .cyc, .rfr, .trn, .rcl, .wrc, .win] : List Param).filter
          fun q => timeOf times q ≤ 0).map ImageFault.timeNotPositive ++
        one (times.sper < times.fper) .periodOrder ++ one (times.cyc < times.hld + times.cls) .cycleShort) ++
      one (!(1 ≤ b 0x0B && b 0x0B ≤ 8 && (List.range (b 0x0B)).all (fun i => 4 ≤ b (0x0C + i) && b (0x0C + i) ≤ 40) &&
        (List.range (b 0x0B - 1)).all fun i => b (0x0C + i) < b (0x0D + i))) .latencyList ++
      one (word 0x29 < 20 || 400 < word 0x29) .refreshRange ++ one (b 0x2B % 4 == 2) .thermalFlags ++
      one ((10 ≤ b 0x2C % 16 && b 0x2C % 16 ≤ 14) ||
        (1 ≤ b 0x2C % 16 && b 0x2C % 16 ≤ 9 && b 0x2C / 16 % 4 == 3)) .budgetCode ++
      (if b 0x03 = 1 then
        one (b 0x55 != 1 && b 0x55 != 2) .bufferKind ++ one (b 0x56 % 4 == 3) (.driveLevel .command) ++
        one (b 0x56 / 4 % 4 == 3) (.driveLevel .control) ++ one (b 0x56 / 16 % 4 == 3) (.driveLevel .clockA) ++
        one (b 0x56 / 64 == 3) (.driveLevel .clockB)
      else []) ++
      one (bank 0x90) (.makerParity .module) ++ one (b 0x03 == 1 && bank 0x52) (.makerParity .buffer) ++
      one (!digits 0x93) (.dateBcd .year) ++
      one (!digits 0x94 || number 0x94 < 1 || 53 < number 0x94) (.dateBcd .week) ++
      (((List.range 20).find? fun i => !character (b (0x99 + i))).map ImageFault.textChar).toList ∧
    (validate img).key = [0x90, 0x91, 0x93, 0x94, 0x95, 0x96, 0x97, 0x98].map fun k => img.getD k 0

/-- O5. PRESENCE_LOW out of a line reset completes: an EMPTY slot goes to SETTLING with its timer at the settle time in
force, its other fields kept; a slot in any other state is unchanged; only the level taken from the line changes
besides. (R44) -/
def Obligations.PresenceLowSettles : Prop :=
  ∀ (n : SlotNo) (s : State), s.resetAsserted = false →
    exec (.presenceLow n) s = .next
      { s with
        pres := s.pres.set n false
        slots :=
          if (s.slots.get n).state = .empty then
            s.slots.set n { s.slots.get n with state := .settling, settle := some s.config.settleMs }
          else s.slots }

/-- O6. PRESENCE_HIGH out of a line reset on a SETTLING slot completes with the slot EMPTY and its timer stopped; on an
EMPTY slot with the slots unchanged; no notice, generation or job changes. SETTLE_EXPIRY on a SETTLING slot
completes: present, timer ended; READING with a scan demanded by a presence claim unless the bus is FAULTED, in
which case UNREADABLE with cause BUS and no scan; SLOT_INSERTED is raised; no generation changes.
(03_slots_presence_and_overrides.md R45; 03_slots_presence_and_overrides.md R46) -/
def Obligations.SettlingEnds : Prop :=
  (∀ (n : SlotNo) (s : State), s.resetAsserted = false →
    ((s.slots.get n).state = .settling →
      exec (.presenceHigh n) s = .next
        { s with
          pres := s.pres.set n true
          slots := s.slots.set n { s.slots.get n with state := .empty, settle := none } }) ∧
    ((s.slots.get n).state = .empty → exec (.presenceHigh n) s = .next { s with pres := s.pres.set n true })) ∧
  (∀ (n : SlotNo) (s : State), (s.slots.get n).state = .settling →
    (s.bus ≠ .faulted →
      exec (.settleExpiry n) s = .next (raise (.slotInserted n) (demandScan n true []
        { s with slots := s.slots.set n { s.slots.get n with state := .reading, present := true, settle := none } }))) ∧
    (s.bus = .faulted →
      exec (.settleExpiry n) s = .next (raise (.slotInserted n)
        { s with
          slots := s.slots.set n
            { s.slots.get n with state := .unreadable, present := true, settle := none, cause := some .bus } })))

/-- O7. PRESENCE_HIGH on a present slot completes: the slot is EMPTY, not present, without image, faults, key, cause,
overrides and clash set, its generation one higher; every other slot keeps its record but for its clash set, which
loses the removed slot, and for an increment exactly when that set changes between empty and non-empty; SLOT_REMOVED
is raised, then the entries go STALE and their notices are raised exactly as the slots whose generation the removal
changed call for (staleSlots, which IncrementStalesItsEntries states); the fields no rule of a removal names are
unchanged. (03_slots_presence_and_overrides.md R48, R61; 02_descriptor_validation.md R38, R39;
07_the_profile_table.md R139, R140, R141) -/
def Obligations.RemovalEmptiesTheSlot : Prop :=
  ∀ (n : SlotNo) (s : State), s.resetAsserted = false → occupied (s.slots.get n).state = true →
    ∃ t, exec (.presenceHigh n) s = .next t ∧
      t.slots.get n =
        { state := .empty, present := false, gen := (s.slots.get n).gen + 1, image := none, faults := [], more := false
          key := none, clash := [], cause := none, overrides := [], settle := (s.slots.get n).settle } ∧
      (∀ m : SlotNo, m ≠ n →
        let left := allSlots.filter fun k =>
          k != m && k != n && (s.slots.get m).key.isSome && (s.slots.get k).key == (s.slots.get m).key
        t.slots.get m =
          { s.slots.get m with
            clash := left
            gen := if (s.slots.get m).clash.isEmpty = left.isEmpty then (s.slots.get m).gen else (s.slots.get m).gen + 1 }) ∧
      (let reported := staleSlots (fun m => (t.slots.get m).gen != (s.slots.get m).gen)
        (raise (.slotRemoved n) s)
       t.entries = reported.entries ∧ t.notices = reported.notices ∧ t.nextSeq = reported.nextSeq ∧
         t.alertN = reported.alertN) ∧
      t = { s with
            pres := s.pres.set n true, slots := t.slots, entries := t.entries, notices := t.notices, nextSeq := t.nextSeq
            alertN := t.alertN, jobs := t.jobs, inFlight := t.inFlight, bus := t.bus, lineSpeed := t.lineSpeed
            pulses := t.pulses, tx := t.tx, inbox := t.inbox }

/-- O8. After a removal the queue holds the jobs of other slots in their order, but for the oldest of them where it has
started; a job in flight for the slot is marked to stop, or is an abandoned USER WRITE at its stop condition. Where
the claims agree with the inbox, a removal places a REMOVED reply for the tag of a USER WRITE in flight for the
slot, then for the tags of the slot's waiting jobs in queue order and joining order, then (log 17) for the tags of a
reading job in a retry wait, and for no other tag. That an abandoned USER WRITE stays in flight without a tag until
its stop condition is log 18. (04_the_sideband_bus_and_job_queue.md R86, R87; 08_host_link_and_request_flow.md R162) -/
def Obligations.RemovalEndsTheSlotsJobs : Prop :=
  (∀ (n : SlotNo) (s : State), s.resetAsserted = false → occupied (s.slots.get n).state = true →
    ∃ t, exec (.presenceHigh n) s = .next t ∧
      (t.jobs = s.jobs.filter (fun j => slotOfWork j.work != some n) ∨
        ∃ j, s.jobs.filter (fun j => slotOfWork j.work != some n) = j :: t.jobs ∧ t.inFlight = some (launch j false)) ∧
      ∀ f, t.inFlight = some f → slotOfWork f.job.work = some n → f.stopMark = true ∨ f.activity = .stopCondition) ∧
  (∀ (n : SlotNo) (s : State), Inv s → s.resetAsserted = false → occupied (s.slots.get n).state = true →
    ∃ t, exec (.presenceHigh n) s = .next t ∧
      let write := (s.inFlight.toList.filter fun f => slotOfWork f.job.work == some n && !isReading f.job).flatMap
        fun f => f.job.tags
      let waiting := (s.jobs.filter fun j => slotOfWork j.work == some n).flatMap Job.tags
      let retry := (s.inFlight.toList.filter fun f =>
        slotOfWork f.job.work == some n && isReading f.job && f.activity == .retryWait).flatMap fun f => f.job.tags
      let ended := repliedTags .removed [] (write ++ waiting ++ retry) s
      t.tx = ended.tx ∧ t.inbox = ended.inbox)

/-- O9. Below 15 ordinary entries a raised notice enters at the back with the next sequence number; at 15 it is lost,
and a NOTICES_LOST entry is appended with tally 1 or the one in the queue counts it, up to 255; ALERT_N is low
afterwards exactly when alert enable is on, the queue being not empty; nothing else changes.
(10_notices_and_the_alert_line.md R194, R195, R196, R198) -/
def Obligations.NoticeIntake : Prop :=
  ∀ (b : NoticeBody) (s : State), isLost { seq := 0, body := b } = false →
    (ordinaryCount s.notices < 15 →
      raise b s = { s with
        notices := s.notices ++ [{ seq := s.nextSeq, body := b }], nextSeq := s.nextSeq + 1
        alertN := !s.config.alertEnable }) ∧
    (ordinaryCount s.notices = 15 → (∀ x ∈ s.notices, isLost x = false) →
      raise b s = { s with
        notices := s.notices ++ [{ seq := s.nextSeq, body := .noticesLost 1 }], nextSeq := s.nextSeq + 1
        alertN := !s.config.alertEnable }) ∧
    ∀ (front back : List Notice) (q : Word16) (k : Nat), s.notices = front ++ { seq := q, body := .noticesLost k } :: back →
      (∀ x ∈ front ++ back, isLost x = false) → ordinaryCount s.notices = 15 →
      raise b s = { s with
        notices := front ++ { seq := q, body := .noticesLost (if k < 255 then k + 1 else 255) } :: back
        alertN := !s.config.alertEnable }

/-- O10. With no job waiting the bus goes IDLE with none in flight; otherwise the oldest waiting job leaves the queue
and starts at the speed in force, the bus BUSY, or RECOVERING for a RECOVER; nothing else changes. Where a SCAN of
the slot waits, the demand's claims join the first such job in its place and the queue keeps its order and length;
otherwise a new SCAN with those claims stands at the end; a SCAN in flight takes no part; nothing but the queue
changes. (04_the_sideband_bus_and_job_queue.md R65, R66, R70; 04_the_sideband_bus_and_job_queue.md R69;
03_slots_presence_and_overrides.md R50) -/
def Obligations.JobQueueOrder : Prop :=
  ((∀ s : State, s.jobs = [] → finishJob s = { s with inFlight := none, bus := .idle }) ∧
    ∀ (j : Job) (rest : List Job) (s : State), s.jobs = j :: rest →
      (j.work ≠ .recover →
        finishJob s = { s with
          jobs := rest, bus := .busy, lineSpeed := s.config.busSpeed
          inFlight := some
            { job := j, stopMark := false, activity := .transaction, failed := 0, bytesRead := [], phase := .writing
              dataAcked := false, polls := 0, fromFaulted := false } }) ∧
      (j.work = .recover →
        finishJob s = { s with
          jobs := rest, bus := .recovering, lineSpeed := s.config.busSpeed, pulses := 0
          inFlight := some
            { job := j, stopMark := false, activity := .recovery, failed := 0, bytesRead := [], phase := .writing
              dataAcked := false, polls := 0, fromFaulted := false } })) ∧
  (∀ (n : SlotNo) (presence : Bool) (tags : List Byte) (s : State),
    (∀ (front back : List Job) (j : Job), s.jobs = front ++ j :: back → j.work = .scan n →
      (∀ x ∈ front, x.work ≠ .scan n) →
      enqueueScan n presence tags s =
        { s with jobs := front ++ { j with presence := j.presence || presence, tags := j.tags ++ tags } :: back }) ∧
    ((∀ x ∈ s.jobs, x.work ≠ .scan n) →
      enqueueScan n presence tags s =
        { s with jobs := s.jobs ++ [{ work := .scan n, presence := presence, tags := tags }] }))

/-- O11. SEGMENT_DONE for an unmarked SCAN in a transaction with fewer than 240 bytes read completes: the 16 bytes are
added, the next segment starts with its own retries, and nothing else changes. MODULE_READ_DONE with the job's
length of bytes, unmarked and in its transaction, replies the tag OK with those bytes and ends the job; nothing else
changes. (04_the_sideband_bus_and_job_queue.md R72, R74; 04_the_sideband_bus_and_job_queue.md R76;
09_request_reference.md R178) -/
def Obligations.ReadsOfTheModule : Prop :=
  (∀ (n : SlotNo) (f : InFlight) (bytes : List Byte) (s : State), s.inFlight = some f → f.job.work = .scan n →
    f.activity = .transaction → f.stopMark = false → bytes.length = 16 → f.bytesRead.length < 240 →
    exec (.segmentDone bytes) s = .next { s with inFlight := some { f with bytesRead := f.bytesRead ++ bytes, failed := 0 } }) ∧
  (∀ (n : SlotNo) (off len : Nat) (f : InFlight) (bytes : List Byte) (s : State), s.inFlight = some f →
    f.job.work = .moduleRead n off len → f.activity = .transaction → f.stopMark = false → bytes.length = len →
    exec (.moduleReadDone bytes) s = .next (finishJob (endTags .ok bytes f.job.tags s)))

/-- O12. SEGMENT_DONE with 240 bytes read completes the scan: the slot holds the 256 bytes with all pages valid, the
Validator's faults, flag, key and classification, no cause, its overrides as they were, and one increment exactly
when a condition of R52 holds; other slots change only in clash set and by an increment where that set changes
emptiness; the entries go STALE exactly as the slots whose generation changed call for; the job is over.
(03_slots_presence_and_overrides.md R51, R52; 02_descriptor_validation.md R23, R38, R39;
04_the_sideband_bus_and_job_queue.md R74, R75; 07_the_profile_table.md R139) -/
def Obligations.LastSegmentCompletesTheScan : Prop :=
  ∀ (n : SlotNo) (f : InFlight) (bytes : List Byte) (s : State), s.inFlight = some f → f.job.work = .scan n →
    f.activity = .transaction → f.stopMark = false → bytes.length = 16 → f.bytesRead.length = 240 →
    ∃ t, exec (.segmentDone bytes) s = .next t ∧
      let img := f.bytesRead ++ bytes
      let v := validate img
      let old := s.slots.get n
      let others := allSlots.filter fun m => m != n && (s.slots.get m).key == some v.key
      t.slots.get n =
        { old with
          state := v.classification, image := some { bytes := img, marks := List.replicate 16 true }, faults := v.faults
          more := v.more, key := some v.key, cause := none, clash := others
          gen :=
            if old.image = none ∨ (old.image.any fun c => c.bytes.take 176 != img.take 176) = true ∨
              old.state ≠ v.classification ∨ old.clash.isEmpty ≠ others.isEmpty then old.gen + 1
            else old.gen } ∧
      (∀ m : SlotNo, m ≠ n → ∃ clash : List SlotNo,
        t.slots.get m =
          { s.slots.get m with
            clash := clash
            gen := if (s.slots.get m).clash.isEmpty = clash.isEmpty then (s.slots.get m).gen
              else (s.slots.get m).gen + 1 } ∧
        ∀ k : SlotNo, k ∈ clash ↔
          k ≠ m ∧ (t.slots.get k).key = (t.slots.get m).key ∧ (t.slots.get m).key ≠ none) ∧
      t.entries = (staleSlots (fun m => (t.slots.get m).gen != (s.slots.get m).gen) s).entries ∧
      t = { s with
            slots := t.slots, entries := t.entries, notices := t.notices, nextSeq := t.nextSeq, alertN := t.alertN
            jobs := t.jobs, inFlight := t.inFlight, bus := t.bus, lineSpeed := t.lineSpeed, pulses := t.pulses
            tx := t.tx, inbox := t.inbox } ∧
      (t.jobs = [] ∧ t.inFlight = none ∧ t.bus = .idle ∨ ∃ j, s.jobs = j :: t.jobs ∧ t.inFlight = some (launch j false))

/-- O13. Where the claims agree with the inbox, the completion replies each tag OK, in joining order, with the slot's
state and generation as the completion left them, and raises MODULE_REPLACED when a different key was held,
SCAN_DONE with the new state, DUPLICATE_IDENTITY with the lowest partner when the clash set was empty and is not,
and after them exactly the notices of the entries that the slots whose generation changed make STALE.
(03_slots_presence_and_overrides.md R52; 04_the_sideband_bus_and_job_queue.md R75; 09_request_reference.md R182;
07_the_profile_table.md R140, R141) -/
def Obligations.CompletedScanReports : Prop :=
  ∀ (n : SlotNo) (f : InFlight) (bytes : List Byte) (s : State), Inv s → s.inFlight = some f → f.job.work = .scan n →
    f.activity = .transaction → f.stopMark = false → bytes.length = 16 → f.bytesRead.length = 240 →
    ∃ t, exec (.segmentDone bytes) s = .next t ∧
      let v := validate (f.bytesRead ++ bytes)
      let old := s.slots.get n
      let replied := repliedTags .ok (slotStateCode v.classification :: le2 (t.slots.get n).gen.toNat) f.job.tags s
      t.tx = replied.tx ∧ t.inbox = replied.inbox ∧
      let own : List NoticeBody :=
        (if old.key ≠ none ∧ old.key ≠ some v.key then [.moduleReplaced n] else []) ++ [.scanDone n v.classification] ++
          (if old.clash = [] then ((t.slots.get n).clash.head?.map (NoticeBody.duplicateIdentity n)).toList else [])
      let reported := staleSlots (fun m => (t.slots.get m).gen != (s.slots.get m).gen) (raiseAll own s)
      t.notices = reported.notices ∧ t.nextSeq = reported.nextSeq ∧ t.alertN = reported.alertN

/-- O14. For a marked SCAN or MODULE READ in a transaction, the end of its transaction, well or ill, ends the job: its
tags are replied REMOVED, the next job starts or the bus goes IDLE, and nothing else changes, no slot and no notice.
That a marked job's failed transaction, the fourth one included, ends it stopped and not NO_RESPONSE is the model's
reading of R72 and R85 (log 8). (04_the_sideband_bus_and_job_queue.md R74, R76, R85) -/
def Obligations.MarkedJobEndsStopped : Prop :=
  ∀ (f : InFlight) (s : State), s.inFlight = some f → f.stopMark = true → f.activity = .transaction →
    let stopped := finishJob (endTags .removed [] f.job.tags s)
    (∀ n bytes, f.job.work = .scan n → bytes.length = 16 → exec (.segmentDone bytes) s = .next stopped) ∧
    (∀ n off len bytes, f.job.work = .moduleRead n off len → bytes.length = len →
      exec (.moduleReadDone bytes) s = .next stopped) ∧
    (∀ acked, exec (.transactionFailed acked) s = .next stopped) ∧
    stopped = { s with
      tx := stopped.tx, inbox := stopped.inbox, jobs := stopped.jobs, inFlight := stopped.inFlight, bus := stopped.bus
      lineSpeed := stopped.lineSpeed, pulses := stopped.pulses }

/-- O15. TRANSACTION_FAILED for an unmarked job with fewer than three failed attempts completes in a retry wait, with
one more failed attempt and, in a page write, the acknowledged data byte recorded; RETRY_TIMER_EXPIRY in a retry
wait of an unmarked job starts the transaction again; nothing else changes. TRANSACTION_FAILED at the fourth attempt
of an unmarked job ends it: a SCAN fails its slot with cause NO_RESPONSE, a MODULE READ touches no slot, a USER
WRITE marks its page not valid exactly when the memory may hold other bytes; the tags are replied NO_RESPONSE and
the next job starts or the bus goes IDLE. That the event carries whether a data byte was acknowledged is log 10.
(04_the_sideband_bus_and_job_queue.md R72, R77; 04_the_sideband_bus_and_job_queue.md R72, R75, R76, R79) -/
def Obligations.RetriesAndNoResponse : Prop :=
  (∀ (f : InFlight) (s : State), s.inFlight = some f → f.stopMark = false →
    (∀ acked, f.activity = .transaction → f.failed < 3 →
      exec (.transactionFailed acked) s = .next
        { s with
          inFlight := some
            { f with
              failed := f.failed + 1, activity := .retryWait
              dataAcked := f.dataAcked || (acked && (!isReading f.job && f.job.work != .recover && f.phase == .writing)) } }) ∧
    (f.activity = .retryWait →
      exec .retryTimerExpiry s = .next { s with inFlight := some { f with activity := .transaction } })) ∧
  (∀ (f : InFlight) (acked : Bool) (s : State), s.inFlight = some f → f.stopMark = false → f.activity = .transaction →
    3 ≤ f.failed →
    (∀ n, f.job.work = .scan n → exec (.transactionFailed acked) s = .next
      (finishJob (endTags .noResponse [] f.job.tags (failScans [n] .noResponse s)))) ∧
    (∀ n off len, f.job.work = .moduleRead n off len → exec (.transactionFailed acked) s = .next
      (finishJob (endTags .noResponse [] f.job.tags s))) ∧
    (∀ n off data, f.job.work = .userWrite n off data → exec (.transactionFailed acked) s = .next
      (finishJob (endTags .noResponse [] f.job.tags
        (if f.phase ≠ .writing ∨ f.dataAcked = true ∨ acked = true then
          { s with
            slots := s.slots.set n
              { s.slots.get n with
                image := (s.slots.get n).image.map fun c => { c with marks := c.marks.set (off / 16) false } } }
        else s)))))

/-- O16. A failure of the scan of one slot puts it in UNREADABLE with the cause, discards image, faults, flag and key,
empties its clash set, keeps its overrides and presence, increments its generation once; another slot changes only
by losing the slot from its clash set, with an increment exactly when that empties it; SCAN_DONE (UNREADABLE) is
raised, then the entries go STALE and their notices are raised exactly as the slots whose generation changed call
for; nothing else changes. (03_slots_presence_and_overrides.md R53; 02_descriptor_validation.md R39;
10_notices_and_the_alert_line.md R192; 07_the_profile_table.md R139, R140, R141) -/
def Obligations.FailedScanUnreadable : Prop :=
  ∀ (n : SlotNo) (c : UnreadableCause) (s : State), ClashInv s →
    let t := failScans [n] c s
    t.slots.get n =
      { s.slots.get n with
        state := .unreadable, cause := some c, image := none, faults := [], more := false, key := none, clash := []
        gen := (s.slots.get n).gen + 1 } ∧
    (∀ m : SlotNo, m ≠ n →
      t.slots.get m =
        { s.slots.get m with
          clash := (s.slots.get m).clash.filter fun k => k != n
          gen := if (s.slots.get m).clash = [n] then (s.slots.get m).gen + 1 else (s.slots.get m).gen }) ∧
    let reported := staleSlots (fun m => (t.slots.get m).gen != (s.slots.get m).gen) (raise (.scanDone n .unreadable) s)
    t = { reported with slots := t.slots }

/-- O17. STUCK_BUS with a job in flight on a BUSY bus completes: the bus is RECOVERING with none in flight, no pulse
sent yet and the queue as it was; an unmarked SCAN fails its slot with cause BUS, an unmarked USER WRITE marks its
page not valid when the memory may hold other bytes, the tags are replied BUS_FAULT; a marked job's tags are replied
REMOVED and nothing is delivered. RECOVERY_END on a RECOVERING bus completes. After a stuck bus: free lines put the
bus in IDLE and start the oldest waiting job without a notice, else FAULTED is entered with BUS_FAULTED. A RECOVER
begun outside FAULTED: OK and the end of the job, or BUS_FAULT and FAULTED with BUS_FAULTED. A RECOVER begun in
FAULTED: OK, BUS_RECOVERED, rescans and the oldest job, or BUS_FAULT and FAULTED without a BUS_FAULTED. The pulses
sent are the low looks before the first high, at most 9. What STUCK_BUS and RECOVERY_END carry is log 10 and log 11.
(04_the_sideband_bus_and_job_queue.md R65, R73, R75, R76, R79; 04_the_sideband_bus_and_job_queue.md R80, R81, R83,
R84) -/
def Obligations.StuckBusAndRecovery : Prop :=
  (∀ (f : InFlight) (acked : Bool) (s : State), s.inFlight = some f → s.bus = .busy →
    let recovering := fun u : State => { u with inFlight := none, bus := .recovering, pulses := 0 }
    (f.stopMark = true → exec (.stuckBus acked) s = .next (recovering (endTags .removed [] f.job.tags s))) ∧
    (f.stopMark = false →
      (∀ n, f.job.work = .scan n → exec (.stuckBus acked) s = .next
        (recovering (endTags .busFault [] f.job.tags (failScans [n] .bus s)))) ∧
      (∀ n off len, f.job.work = .moduleRead n off len → exec (.stuckBus acked) s = .next
        (recovering (endTags .busFault [] f.job.tags s))) ∧
      (∀ n off data, f.job.work = .userWrite n off data → exec (.stuckBus acked) s = .next
        (recovering (endTags .busFault [] f.job.tags
          (if f.phase ≠ .writing ∨ f.dataAcked = true ∨ (acked = true ∧ f.activity = .transaction) then
            { s with
              slots := s.slots.set n
                { s.slots.get n with
                  image := (s.slots.get n).image.map fun c => { c with marks := c.marks.set (off / 16) false } } }
          else s)))))) ∧
  (∀ (looks : List Bool) (scl sda : Bool) (s : State), s.bus = .recovering →
    let p := { s with pulses := min 9 (looks.takeWhile fun high => !high).length }
    (s.inFlight = none →
      exec (.recoveryEnd looks scl sda) s = .next
        (if scl = true ∧ sda = true then startNext { p with bus := .idle } else enterFaulted true p)) ∧
    ∀ f, s.inFlight = some f →
      (f.fromFaulted = false →
        exec (.recoveryEnd looks scl sda) s = .next
          (if scl = true ∧ sda = true then finishJob (endTags .ok [] f.job.tags p)
          else enterFaulted true (endTags .busFault [] f.job.tags p))) ∧
      (f.fromFaulted = true →
        exec (.recoveryEnd looks scl sda) s = .next
          (if scl = true ∧ sda = true then
            startNext (recoveryRescans (raise .busRecovered
              (endTags .ok [] f.job.tags { p with inFlight := none, bus := .idle })))
          else enterFaulted false (endTags .busFault [] f.job.tags p))))

/-- O18. Entering FAULTED leaves the bus FAULTED with an empty queue and none in flight; the waiting jobs' tags are
replied BUS_FAULT oldest first; the slot of each presence scan is UNREADABLE with cause BUS, without image, faults,
key and clash set, one generation higher, its overrides kept; every other slot keeps its record but for its clash
set, which loses those slots, and an increment exactly when that empties it; SCAN_DONE (UNREADABLE) is raised for
each presence scan, oldest first, then the entries go STALE with their notices as the slots whose generation changed
call for, then BUS_FAULTED when it is announced and not otherwise; nothing else changes. That all presence scans
fail as one event with one increment for a slot, and that staleness notices stand before BUS_FAULTED, is log 9.
(04_the_sideband_bus_and_job_queue.md R82, R84; 03_slots_presence_and_overrides.md R53, R54;
02_descriptor_validation.md R38, R39; 07_the_profile_table.md R139, R140) -/
def Obligations.FaultedEntryFailsTheQueue : Prop :=
  ∀ (announce : Bool) (s : State), LinkInv s → ((s.jobs.flatMap Job.tags).Nodup) →
    (∀ g ∈ s.jobs.flatMap Job.tags, g ∈ s.inbox.map Outstanding.tag) →
    let t := enterFaulted announce s
    let replied := repliedTags .busFault [] (s.jobs.flatMap Job.tags) s
    let failing := fun n : SlotNo => s.jobs.any fun j => j.work == .scan n && j.presence
    let done := s.jobs.filterMap fun j =>
      match j.work with
      | .scan n => if j.presence = true then some (NoticeBody.scanDone n .unreadable) else none
      | _ => none
    let reported := staleSlots (fun m => (t.slots.get m).gen != (s.slots.get m).gen) (raiseAll done s)
    let announced := if announce = true then raise .busFaulted reported else reported
    t.bus = .faulted ∧ t.jobs = [] ∧ t.inFlight = none ∧ t.tx = replied.tx ∧ t.inbox = replied.inbox ∧
    (∀ n : SlotNo, failing n = true →
      t.slots.get n =
        { s.slots.get n with
          state := .unreadable, cause := some .bus, image := none, faults := [], more := false, key := none, clash := []
          gen := (s.slots.get n).gen + 1 }) ∧
    (∀ n : SlotNo, failing n = false →
      let left := allSlots.filter fun k =>
        k != n && !failing k && (s.slots.get n).key.isSome && (s.slots.get k).key == (s.slots.get n).key
      t.slots.get n =
        { s.slots.get n with
          clash := left
          gen :=
            if (s.slots.get n).clash.isEmpty = left.isEmpty then (s.slots.get n).gen else (s.slots.get n).gen + 1 }) ∧
    t = { announced with
      slots := t.slots, bus := t.bus, jobs := t.jobs, inFlight := t.inFlight, tx := t.tx, inbox := t.inbox }

/-- O19. The rescans of a recovery put each slot in UNREADABLE with cause BUS in READING with no increment and give it a
waiting SCAN with a presence claim; every other slot is unchanged; the queue keeps its jobs in order, with new SCANs
in ascending slot order behind them; nothing else changes. (03_slots_presence_and_overrides.md R56;
04_the_sideband_bus_and_job_queue.md R84) -/
def Obligations.RecoveryRescansLostSlots : Prop :=
  ∀ s : State,
    let lost := fun n : SlotNo => (s.slots.get n).state = .unreadable ∧ (s.slots.get n).cause = some .bus
    let t := recoveryRescans s
    (∀ n : SlotNo, lost n →
      t.slots.get n = { s.slots.get n with state := .reading, cause := none } ∧
        ∃ j ∈ t.jobs, j.work = .scan n ∧ j.presence = true) ∧
    (∀ n : SlotNo, ¬ lost n → t.slots.get n = s.slots.get n) ∧
    t = { s with slots := t.slots, jobs := t.jobs } ∧
    t.jobs.map Job.work = s.jobs.map Job.work ++
      (allSlots.filter fun n => decide (lost n) && !(s.jobs.any fun j => j.work == .scan n)).map JobWork.scan

/-- O20. For a USER WRITE: PAGE_WRITE_DONE in WRITING goes to POLLING; POLL_TIMER_EXPIRY before a poll sends it;
POLL_DONE goes to READ-BACK when acknowledged, waits for the next poll when not and fewer than ten were sent, and at
the tenth ends the job WRITE_TIMEOUT with the page marked not valid; nothing else changes. USER_WRITE_ABANDON_END
while the job in flight sends that stop condition ends the job; the next job starts or the bus goes IDLE; nothing
else changes. The abandoned write in flight until then is log 18. (04_the_sideband_bus_and_job_queue.md R77, R78,
R79; 04_the_sideband_bus_and_job_queue.md R87) -/
def Obligations.UserWritePhases : Prop :=
  (∀ (n : SlotNo) (off : Nat) (data : List Byte) (f : InFlight) (s : State), s.inFlight = some f →
    f.job.work = .userWrite n off data →
    (f.activity = .transaction → f.phase = .writing →
      exec .pageWriteDone s = .next { s with
        inFlight := some
          { f with phase := .polling, activity := .pollWait, failed := 0, dataAcked := true, polls := 0 } }) ∧
    (f.activity = .pollWait →
      exec .pollTimerExpiry s = .next { s with inFlight := some { f with activity := .poll, polls := f.polls + 1 } }) ∧
    (f.activity = .poll →
      exec (.pollDone true) s = .next { s with
        inFlight := some
          { f with phase := .readBack, activity := .transaction, failed := 0 } } ∧
      (f.polls < 10 →
        exec (.pollDone false) s = .next { s with inFlight := some { f with activity := .pollWait } }) ∧
      (10 ≤ f.polls →
        exec (.pollDone false) s = .next (finishJob (endTags .writeTimeout [] f.job.tags
          { s with
            slots := s.slots.set n
              { s.slots.get n with
                image := (s.slots.get n).image.map fun c => { c with marks := c.marks.set (off / 16) false } } }))))) ∧
  (∀ (f : InFlight) (s : State), s.inFlight = some f → f.activity = .stopCondition →
    exec .userWriteAbandonEnd s = .next (finishJob s))

/-- O21. READ_BACK_DONE in READ-BACK with 16 bytes ends the job: OK when every written byte equals the byte read back at
its offset, else MISMATCH with the 16 bytes. In a copy the slot holds, the page is marked valid; at OK offsets off
to off + len - 1 hold the written bytes, at MISMATCH the whole page holds the 16 bytes, and every other byte is as
before. No other field of the slot and no other slot changes. (04_the_sideband_bus_and_job_queue.md R79;
03_slots_presence_and_overrides.md R57) -/
def Obligations.ReadBackDecides : Prop :=
  ∀ (n : SlotNo) (off : Nat) (data bytes : List Byte) (f : InFlight) (s : State), s.inFlight = some f →
    f.job.work = .userWrite n off data → f.activity = .transaction → f.phase = .readBack → bytes.length = 16 →
    workOk (.userWrite n off data) = true →
    let same : Prop := ∀ i, i < data.length → data[i]? = bytes[off % 16 + i]?
    ∃ copy : ImageCopy → ImageCopy,
      (same → exec (.readBackDone bytes) s = .next (finishJob (endTags .ok [] f.job.tags
        { s with slots := s.slots.set n { s.slots.get n with image := (s.slots.get n).image.map copy } }))) ∧
      (¬ same → exec (.readBackDone bytes) s = .next (finishJob (endTags .mismatch bytes f.job.tags
        { s with slots := s.slots.set n { s.slots.get n with image := (s.slots.get n).image.map copy } }))) ∧
      ∀ c, CopyOk c →
        (copy c).marks = c.marks.set (off / 16) true ∧ (copy c).bytes.length = 256 ∧
        (∀ a, a < 256 → (copy c).bytes[a]? =
          if off ≤ a ∧ a < off + data.length then bytes[a % 16]?
          else if ¬ same ∧ a / 16 = off / 16 then bytes[a % 16]?
          else c.bytes[a]?)

/-- O22. In every state that keeps the invariants, a page write the job in flight has on the bus starts at offset 208 or
above, ends at 255 or below, lies in one page and carries 1 to 16 bytes. A read of 1 byte or more, a page write and a
poll are on the bus as R66 lays them out: start condition, address byte of R208, the bytes sent, in a read a repeated
start and the read address, the bytes taken, each acknowledged except the last, and a stop condition; a sent byte that
the memory does not acknowledge is followed by a stop condition at once. The bits of a sideband byte are log 20.
(04_the_sideband_bus_and_job_queue.md R66, R77; 09_request_reference.md R179; 11_formats_and_signals.md R208) -/
def Obligations.WritesStayInTheUserArea : Prop :=
  (∀ (s : State) (f : InFlight) (n : SlotNo) (off : Nat) (data : List Byte), Inv s → s.inFlight = some f →
    busTransaction f = some (.pageWrite n off data) →
    208 ≤ off ∧ off + data.length ≤ 256 ∧ 1 ≤ data.length ∧ data.length ≤ 16 ∧
      off / 16 = (off + data.length - 1) / 16) ∧
  (∀ (n : SlotNo) (off : Nat) (data : List Byte) (len : Nat), 1 ≤ len →
    let write : Byte := BitVec.ofNat 8 (0x50 + 2 * n.val)
    let read : Byte := BitVec.ofNat 8 (0x51 + 2 * n.val)
    let offset : Byte := BitVec.ofNat 8 off
    ∃ taken : List BusSymbol, taken.length = len ∧ (∀ i, i + 1 < len → taken[i]? = some (.take true)) ∧
      taken[len - 1]? = some (.take false) ∧
      transactionSymbols (.read n off len) =
        [.start, .send write, .send offset, .start, .send read] ++ taken ++ [.stop] ∧
      transactionSymbols (.pageWrite n off data) = [.start, .send write, .send offset] ++ data.map .send ++ [.stop] ∧
      transactionSymbols (.poll n) = [.start, .send read, .take false, .stop]) ∧
  ∀ (t : BusTransaction) (front back : List BusSymbol) (b : Byte), transactionSymbols t = front ++ .send b :: back →
    unacknowledgedAt front.length t = front ++ [.send b, .stop]

/-- O23. UNUSABLE exactly with a CONTENT fault, else SUSPECT exactly with CRC_MISMATCH, else VALID; a VALID image lists
no CONTENT or INTEGRITY fault and a SUSPECT one no CONTENT fault; the list holds the first eight faults, and `more`
is set exactly when there is a ninth. (R26) -/
def Obligations.ClassificationByFamily : Prop :=
  ∀ img : List Byte,
    let found := imageFaults img
    let v := validate img
    (v.classification = .unusable ↔ ∃ x ∈ found, faultFamily x = .content) ∧
    (v.classification = .suspect ↔ (∀ x ∈ found, faultFamily x ≠ .content) ∧ ImageFault.crcMismatch ∈ found) ∧
    (v.classification = .valid ↔ ∀ x ∈ found, faultFamily x = .identity) ∧
    (v.classification = .valid → ∀ x ∈ v.faults, faultFamily x = .identity) ∧
    (v.classification = .suspect → ∀ x ∈ v.faults, faultFamily x ≠ .content) ∧
    v.faults = found.take 8 ∧ (v.more = true ↔ 8 < found.length)

/-- O24. Whenever a resolution gives a result: every copy is ready by its state and clash; kind, class and width are
common, and the width is the expected one; the period and the latency are the chosen ones, the period between the
target's bounds and every copy's FPER and SPER, the latency in every copy's list and in the target's range, covering
the largest access time less the allowance; each of the nine counts is the least number of periods that meets its
floor and covers every copy's effective time less the allowance, CYC raised to HLD plus CLS, at most 4095; the
refresh interval is the greatest number of periods within every copy's refresh time, 1 to 65,535; the budget is the
smallest numeric count with the longest window, or UNLIMITED; every copy is rated for a hot resolution; the flags,
the class and each per-slot output are as the copies give them, in order of the set. For a copy that holds no
decoded value the functions read a default (log 15). (06_resolution.md R112 to R127) -/
def Obligations.ResultMeetsEveryModule : Prop :=
  ∀ (w : Work) (p : Profile), w.copies ≠ [] → resolveWork w = .result p → 0 < p.period →
    (∀ c ∈ w.copies, c.state = .valid ∧ (c.clash = false ∨ w.request.acceptSuspect = true) ∨
      c.state = .suspect ∧ w.request.acceptSuspect = true) ∧
    (∀ c ∈ w.copies, ∀ d ∈ w.copies, copyKind c = copyKind d ∧ copyClass c = copyClass d ∧ copyWidth c = copyWidth d) ∧
    (∀ c ∈ w.copies, ∀ e, w.target.expectedWidth = some e → copyWidth c = some e) ∧
    (w.request.hot = true → ∀ c ∈ w.copies, copyExtRange c = true) ∧
    choosePeriod w = .ok (p.period, p.latency) ∧
    w.target.periodMin ≤ p.period ∧ p.period ≤ w.target.periodMax ∧
    (∀ c ∈ w.copies, copyTime .fper c ≤ p.period ∧ (p.period : Int) ≤ copyTime .sper c) ∧
    w.target.latencyMin ≤ p.latency ∧ p.latency ≤ w.target.latencyMax ∧
    (∀ c ∈ w.copies, p.latency ∈ copyLatencies c ∧
      effectiveOf .acc c - w.target.allowance ≤ ((p.latency * p.period : Nat) : Int)) ∧
    AreCounts w p.period p.counts ∧ (∀ k ∈ nineList p.counts, k ≤ 4095) ∧ p.counts.hld + p.counts.cls ≤ p.counts.cyc ∧
    IsInterval w p.period p.refresh ∧ 1 ≤ p.refresh ∧ p.refresh ≤ 65535 ∧
    IsBudget w.copies p.budget ∧
    (p.unknown = true ↔ ∃ c ∈ w.copies, copyBudget c = some .untested) ∧
    (w.target.requireBudget = true → p.unknown = false) ∧
    (p.suspect = true ↔ ∃ c ∈ w.copies, c.state = .suspect ∨ c.clash = true) ∧
    (∀ c ∈ w.copies, ∀ k, copyClass c = some k → p.cls = k) ∧
    ((∀ c ∈ w.copies, c.decoded.bind Decoded.output ≠ none) →
      p.outputs.map (fun o => (o.1, some o.2)) = w.copies.map fun c => (c.slot, c.decoded.bind Decoded.output))

/-- O25. When the period choice of a FASTEST request over a strictly ascending ladder copy succeeds with a period and a
latency, no shorter entry of the ladder in the window has a latency at all, and no smaller allowed latency covers
the access time at the period; when it fails with NO_LATENCY no entry in the window has a latency, and with
NO_PERIOD no entry lies in the window. A FIXED request's choice is its own period with the smallest allowed latency
that covers the access time, PERIOD_OUT_OF_RANGE exactly outside the window, and NO_LATENCY exactly when no allowed
latency covers it. The window is the target's bounds with every FPER and SPER, the allowed latencies are those of
every list within the target's range, the access time is every copy's effective ACC less the allowance, and a copy's
effective time is its override where its list holds one and its decoded time otherwise. For a copy that holds no
decoded value the functions read a default (log 15). (06_resolution.md R114, R116, R117, R118, R119) -/
def Obligations.FastestIsTheShortestCandidate : Prop :=
  (∀ (w : Work) (ladder : List Nat), w.request.mode = .fastest → w.ladder = some ladder → strictlyAscending ladder = true →
    (∀ p l, choosePeriod w = .ok (p, l) →
      p ∈ ladder ∧ inWindow w p = true ∧ l ∈ allowedLatencies w ∧ coversAccess w p l = true ∧
      (∀ l' ∈ allowedLatencies w, l' < l → coversAccess w p l' = false) ∧
      ∀ q ∈ ladder, q < p → inWindow w q = true → ∀ l' ∈ allowedLatencies w, coversAccess w q l' = false) ∧
    (choosePeriod w = .error .noLatency →
      ∀ q ∈ ladder, inWindow w q = true → ∀ l' ∈ allowedLatencies w, coversAccess w q l' = false) ∧
    (choosePeriod w = .error .noPeriod ↔ ∀ q ∈ ladder, inWindow w q = false)) ∧
  (∀ (w : Work) (q : Nat), w.request.mode = .fixed q →
    (∀ p l, choosePeriod w = .ok (p, l) ↔
      p = q ∧ inWindow w q = true ∧ l ∈ allowedLatencies w ∧ coversAccess w q l = true ∧
        ∀ l' ∈ allowedLatencies w, l' < l → coversAccess w q l' = false) ∧
    (choosePeriod w = .error .periodOutOfRange ↔ inWindow w q = false) ∧
    (choosePeriod w = .error .noLatency ↔
      inWindow w q = true ∧ ∀ l' ∈ allowedLatencies w, coversAccess w q l' = false)) ∧
  (∀ (w : Work) (p l : Nat), w.copies ≠ [] →
    (inWindow w p = true ↔ w.target.periodMin ≤ p ∧ p ≤ w.target.periodMax ∧
      ∀ c ∈ w.copies, copyTime .fper c ≤ p ∧ (p : Int) ≤ copyTime .sper c) ∧
    (l ∈ allowedLatencies w ↔
      w.target.latencyMin ≤ l ∧ l ≤ w.target.latencyMax ∧ ∀ c ∈ w.copies, l ∈ copyLatencies c) ∧
    (coversAccess w p l = true ↔ ∀ c ∈ w.copies, effectiveOf .acc c - w.target.allowance ≤ ((l * p : Nat) : Int))) ∧
  ∀ (q : Param) (c : SlotCopy),
    ((∀ o ∈ c.overrides, o.param ≠ q) → effectiveOf q c = copyTime q c) ∧
    (∀ front back (v : Nat), c.overrides = front ++ { param := q, value := v } :: back → (∀ o ∈ front, o.param ≠ q) →
      effectiveOf q c = (v : Int)) ∧
    ∀ d t, c.decoded = some d → d.times = some t → copyTime q c = timeOf t q

/-- O26. RESOLUTION_COMPLETE while the Resolver works completes: a failure makes the BUILDING entry FAILED whatever the
generations; a result makes it VALID when every generation of its snapshot is current and STALE when some is not;
its RESOLVE is replied FAILED, OK or STALE with the handle and the record, no notice is raised, the Resolver is IDLE
and the oldest QUEUED entry is handed over. That the outcome is computed at this event from the working record is
log 19. (07_the_profile_table.md R136, R137, R138; 06_resolution.md R110) -/
def Obligations.CompletionIsJudged : Prop :=
  ∀ (s : State) (w : Work) (e : Entry) (tag : Byte) (sn : Snapshot), Inv s → s.work = some w → e ∈ s.entries →
    e.state = .building tag sn →
    let current := (∀ g ∈ sn.gens, (s.slots.get g.1).gen = g.2) ∧ sn.target = s.targetGen
    let done := fun (st : EntryState) (status : Status) (record : List Byte) =>
      handOver { s with
        entries := s.entries.map fun x => if x.handle = e.handle then { e with state := st } else x
        work := none, inbox := s.inbox.filter fun o => o.tag != tag
        tx := s.tx ++ [{ tag := tag, kind := kindOf s tag, status := status, payload := e.handle :: record }] }
    (∀ f, resolveWork w = .failure f →
      exec .resolutionComplete s = .next (done (.failed sn f) .failed (failurePayload f))) ∧
    (∀ p, resolveWork w = .result p → current →
      exec .resolutionComplete s = .next (done (.valid sn p) .ok (resultPayload p))) ∧
    (∀ p, resolveWork w = .result p → ¬ current →
      exec .resolutionComplete s = .next (done (.stale sn p) .stale (resultPayload p)))

/-- O27. Hand-over with the Resolver IDLE records in the first QUEUED entry the generation of each slot of its set and
of the target, copies state and clash flag of each slot, and of a slot with an image copy the decoded image and the
overrides too, the target, and the ladder for FASTEST; with the Resolver WORKING, or no entry QUEUED, nothing
changes. (06_resolution.md R106, R107; 07_the_profile_table.md R136) -/
def Obligations.HandOverTakesTheOldest : Prop :=
  (∀ (s : State) (front back : List Entry) (e : Entry) (tag : Byte), s.work = none → s.entries = front ++ e :: back →
    (∀ x ∈ front, isQueued x = false) → e.state = .queued tag → (s.entries.map Entry.handle).Nodup →
    let sn : Snapshot := { gens := e.request.slots.map fun n => (n, (s.slots.get n).gen), target := s.targetGen }
    handOver s = { s with
      entries := front ++ { e with state := .building tag sn } :: back
      work := some
        { request := e.request
          copies := e.request.slots.map fun n =>
            { slot := n, state := (s.slots.get n).state, clash := !(s.slots.get n).clash.isEmpty
              decoded := (s.slots.get n).image.map fun c => decodeImage c.bytes
              overrides := if (s.slots.get n).image = none then [] else (s.slots.get n).overrides }
          target := s.target
          ladder := if e.request.mode = .fastest then some s.ladder else none } }) ∧
  ∀ s : State, (s.work ≠ none ∨ ∀ x ∈ s.entries, isQueued x = false) → handOver s = s

/-- O28. Out of a line reset and of CLOSING a good frame without a free place is discarded OVERRUN; with one it is
refused BAD_ARGUMENT for tag 0, DUPLICATE_TAG for a tag outstanding, UNKNOWN_KIND for a byte that is no request
kind, FULL with four outstanding unless FETCH NOTICES, CANCEL or RESET, each refusal without payload and the first
that holds; otherwise its owner acts. UNKNOWN_KIND completes as that refusal. In CLOSING and while RESET_N is
asserted a frame has no effect and raises no notice. The effect of each request command, and of a frame of unknown
kind, is that of a good frame with the KIND byte of R204. That a request row is a whole good frame is log 4; that
both RESET rows act by the scope their payload holds, the other row's included, is log 14.
(08_host_link_and_request_flow.md R156, R157, R158, R165, R166; 09_request_reference.md R168;
11_formats_and_signals.md R204) -/
def Obligations.AcceptanceInOrder : Prop :=
  (∀ (tag kind : Byte) (payload : List Byte) (s : State), s.resetAsserted = false → s.closing = false →
    let kinds : List Byte := [0x01, 0x02, 0x03, 0x04, 0x05, 0x06, 0x10, 0x11, 0x12, 0x13, 0x14, 0x15, 0x16, 0x17, 0x20,
      0x21, 0x22, 0x23, 0x24, 0x25, 0x30, 0x31, 0x32, 0x33]
    (8 ≤ s.tx.length + s.inbox.length →
      takeFrame tag kind payload s = raise (.linkFrameDropped .overrun) s) ∧
    (s.tx.length + s.inbox.length < 8 →
      (tag = 0 → takeFrame tag kind payload s = withReply tag kind .badArgument [] s) ∧
      (tag ≠ 0 → (∃ o ∈ s.inbox, o.tag = tag) → takeFrame tag kind payload s = withReply tag kind .duplicateTag [] s) ∧
      (tag ≠ 0 → (∀ o ∈ s.inbox, o.tag ≠ tag) → kind ∉ kinds →
        exec (.unknownKind tag kind payload) s = .next (withReply tag kind .unknownKind [] s)) ∧
      (tag ≠ 0 → (∀ o ∈ s.inbox, o.tag ≠ tag) → kind ∈ kinds → 4 ≤ s.inbox.length → kind ∉ [0x30, 0x31, 0x33] →
        takeFrame tag kind payload s = withReply tag kind .full [] s) ∧
      (Taken s tag kind → kind ∈ kinds → takeFrame tag kind payload s = ownerOf tag kind payload s))) ∧
  (∀ (tag kind : Byte) (payload : List Byte) (s : State), s.closing = true ∨ s.resetAsserted = true →
    takeFrame tag kind payload s = s) ∧
  (∀ (tag : Byte) (p : List Byte) (s : State),
    exec (.info tag p) s = .next (takeFrame tag 0x01 p s) ∧ exec (.configure tag p) s = .next (takeFrame tag 0x02 p s) ∧
    exec (.setTarget tag p) s = .next (takeFrame tag 0x03 p s) ∧ exec (.getTarget tag p) s = .next (takeFrame tag 0x04 p s) ∧
    exec (.setLadder tag p) s = .next (takeFrame tag 0x05 p s) ∧ exec (.getLadder tag p) s = .next (takeFrame tag 0x06 p s) ∧
    exec (.listSlots tag p) s = .next (takeFrame tag 0x10 p s) ∧ exec (.getSlot tag p) s = .next (takeFrame tag 0x11 p s) ∧
    exec (.readImage tag p) s = .next (takeFrame tag 0x12 p s) ∧
    exec (.readModule tag p) s = .next (takeFrame tag 0x13 p s) ∧
    exec (.writeUser tag p) s = .next (takeFrame tag 0x14 p s) ∧ exec (.rescan tag p) s = .next (takeFrame tag 0x15 p s) ∧
    exec (.setOverride tag p) s = .next (takeFrame tag 0x16 p s) ∧
    exec (.clearOverrides tag p) s = .next (takeFrame tag 0x17 p s) ∧
    exec (.resolve tag p) s = .next (takeFrame tag 0x20 p s) ∧ exec (.getProfile tag p) s = .next (takeFrame tag 0x21 p s) ∧
    exec (.listProfiles tag p) s = .next (takeFrame tag 0x22 p s) ∧
    exec (.applyProfile tag p) s = .next (takeFrame tag 0x23 p s) ∧
    exec (.unapplyProfile tag p) s = .next (takeFrame tag 0x24 p s) ∧
    exec (.dropProfile tag p) s = .next (takeFrame tag 0x25 p s) ∧
    exec (.fetchNotices tag p) s = .next (takeFrame tag 0x30 p s) ∧ exec (.cancel tag p) s = .next (takeFrame tag 0x31 p s) ∧
    exec (.busReset tag p) s = .next (takeFrame tag 0x32 p s) ∧
    exec (.resetSession tag p) s = .next (takeFrame tag 0x33 p s) ∧
    exec (.resetFull tag p) s = .next (takeFrame tag 0x33 p s) ∧
    ∀ kind, exec (.unknownKind tag kind p) s = .next (takeFrame tag kind p s))

/-- O29. For every 256-byte image: kind, class and width by their codes, absent for any other; the twelve effective
times, coarse times grain plus fine times 2 ps, absent for an unknown grain; the latency list, absent for a count
above 8; refresh base; the two thermal flags; the budget; the rank-swap flag of a PLAIN image or the four drive
levels of a BUFFERED one, absent for an unknown class. (01_the_module_descriptor_image.md R3 to R17;
06_resolution.md R107; 11_formats_and_signals.md R203) -/
def Obligations.DecodedValuesByTheBytes : Prop :=
  ∀ img : List Byte, img.length = 256 →
    let b := fun k : Nat => (img.getD k 0).toNat
    let word := fun k : Nat => b k + 256 * b (k + 1)
    let fine := fun k : Nat => (img.getD k 0).toInt
    let grain : Int := if b 0x05 = 0 then 100 else 250
    let wide := fun k : Nat => (word k : Int) * grain
    let times : Times :=
      { fper := wide 0x06 + fine 0x08 * 2, sper := wide 0x09, acc := wide 0x14 + fine 0x16 * 2
        opn := wide 0x17 + fine 0x19 * 2, cls := wide 0x1A + fine 0x1C * 2, hld := wide 0x1D
        cyc := wide 0x1F + fine 0x21 * 2, rfr := wide 0x22, trn := b 0x24 * grain, rcl := b 0x25 * grain
        wrc := b 0x26 * grain, win := wide 0x27 }
    let level := fun x : Nat =>
      if x = 0 then some DriveLevel.light else if x = 1 then some .moderate else if x = 2 then some .strong else none
    decodeImage img =
      { kind := if b 0x02 = 0x41 then some .kindA else if b 0x02 = 0x42 then some .kindB else none
        cls := if b 0x03 = 0 then some .plain else if b 0x03 = 1 then some .buffered else none
        width :=
          if b 0x04 % 4 = 0 then some .w32 else if b 0x04 % 4 = 1 then some .w64 else if b 0x04 % 4 = 2 then some .w72
          else none
        times := if b 0x05 ≤ 1 then some times else none
        latencies := if b 0x0B ≤ 8 then some ((List.range (b 0x0B)).map fun i => b (0x0C + i)) else none
        refreshBase := word 0x29, extRange := b 0x2B % 2 == 1, extNative := b 0x2B / 2 % 2 == 1
        budget :=
          if b 0x2C % 16 = 0 then some .untested
          else if b 0x2C % 16 = 15 then some .unlimited
          else if b 0x2C % 16 ≤ 9 ∧ b 0x2C / 16 % 4 ≤ 2 then
            some (.numeric (b 0x2C % 16 * 100000) (1000 * 2 ^ (b 0x2C / 16 % 4)))
          else none
        output :=
          if b 0x03 = 0 then some (.rankSwap (b 0x52 % 2 == 1))
          else if b 0x03 = 1 then
            some (.drives
              { command := level (b 0x56 % 4), control := level (b 0x56 / 4 % 4), clockA := level (b 0x56 / 16 % 4)
                clockB := level (b 0x56 / 64) })
          else none }

/-- O30. For every tag, kind and payload of at most 120 bytes: START, LEN, TAG, KIND, PAYLOAD and CHECK received one
after another by an idle receiver have exactly the effect of the good frame, whatever bytes stand in the payload. A byte
is a whole character (log 20); that the idle receiver's count is 0 is the model's choice (log 23).
(08_host_link_and_request_flow.md R151, R152, R155) -/
def Obligations.FramedBytesMakeTheFrame : Prop :=
  ∀ (tag kind : Byte) (payload : List Byte) (s : State), payload.length ≤ 120 → s.resetAsserted = false →
    s.closing = false → s.rx = { phase := .hunt, expected := 0, buffer := [], gapRunning := false } →
    feedBytes (frame (tag :: kind :: payload)) s = .next (takeFrame tag kind payload s)

/-- O31. A character on RXD is a low start bit, eight data bits, least significant first, and one stop bit: with the
stop bit high its byte is received, with it low the character is dropped. Out of a line reset and of CLOSING,
BYTE_RECEIVED completes: in HUNT only START opens a frame; in LENGTH a LEN of 2 to 122 is kept, any other discards the
frame with LENGTH and is itself taken again, so that START opens the next; BODY and the first CHECK byte are placed; the
second CHECK byte with a right CRC hands the frame to acceptance. GAP_EXPIRY with the timer running discards the frame
with GAP and takes nothing again. CHARACTER_DROPPED changes nothing. The count 0 in HUNT and LENGTH is the model's
choice (log 23); the level of the start bit is log 24, and that a data bit of 1 is high is log 25. In CLOSING and while
RESET_N is asserted a byte has no effect and raises no notice. (08_host_link_and_request_flow.md R150, R152, R153, R154,
R155, R165, R166) -/
def Obligations.ReceiverPhases : Prop :=
  (∀ (b : Byte) (stop : Bool),
    characterEvent [false, b.getLsbD 0, b.getLsbD 1, b.getLsbD 2, b.getLsbD 3, b.getLsbD 4, b.getLsbD 5, b.getLsbD 6,
      b.getLsbD 7, stop] = some (if stop = true then .byteReceived b else .characterDropped)) ∧
  (∀ s : State, exec .characterDropped s = .next s) ∧
  (∀ (b : Byte) (s : State), s.closing = true ∨ s.resetAsserted = true → exec (.byteReceived b) s = .next s) ∧
  (∀ s : State, s.rx.gapRunning = true →
    exec .gapExpiry s = .next (raise (.linkFrameDropped .gap) { s with rx := receiverIdle })) ∧
  ∀ (b : Byte) (s : State), s.resetAsserted = false → s.closing = false →
    (s.rx.phase = .hunt → exec (.byteReceived b) s = .next
      (if b = 0xB6 then { s with rx := { phase := .length, expected := 0, buffer := [], gapRunning := true } } else s)) ∧
    (s.rx.phase = .length → 2 ≤ b.toNat → b.toNat ≤ 122 → exec (.byteReceived b) s = .next
      { s with rx := { phase := .body, expected := b.toNat, buffer := [b], gapRunning := true } }) ∧
    (s.rx.phase = .length → (b.toNat < 2 ∨ 122 < b.toNat) → exec (.byteReceived b) s = .next
      (let t := raise (.linkFrameDropped .length) { s with rx := receiverIdle }
       if b = 0xB6 then { t with rx := { phase := .length, expected := 0, buffer := [], gapRunning := true } } else t)) ∧
    (s.rx.phase = .body → 2 ≤ s.rx.expected → exec (.byteReceived b) s = .next
      { s with
        rx :=
          { phase := .body, expected := s.rx.expected - 1, buffer := s.rx.buffer ++ [b], gapRunning := true } }) ∧
    (s.rx.phase = .body → s.rx.expected = 1 → exec (.byteReceived b) s = .next
      { s with rx := { phase := .check, expected := 2, buffer := s.rx.buffer ++ [b], gapRunning := true } }) ∧
    (s.rx.phase = .check → s.rx.expected = 2 → exec (.byteReceived b) s = .next
      { s with rx := { phase := .check, expected := 1, buffer := s.rx.buffer ++ [b], gapRunning := true } }) ∧
    (s.rx.phase = .check → s.rx.expected = 1 → checkOk (s.rx.buffer ++ [b]) = true → exec (.byteReceived b) s = .next
      (handGood (s.rx.buffer ++ [b]) { s with rx := receiverIdle }))

/-- O32. Out of a line reset and of CLOSING, the second CHECK byte of a frame whose CRC is wrong raises
LINK_FRAME_DROPPED with CHECK, and all bytes after START, this one included, are then taken in their order as if they
arrived again, however many further frames open among them: the pass loses none of them and ends. That bytes retained
behind a good frame are taken after that frame's owner has acted, in the same step, is log 22; the count 0 of the
receiver back in HUNT is log 23. (08_host_link_and_request_flow.md R155) -/
def Obligations.WrongCheckTakesTheBytesAgain : Prop :=
  ∀ (b : Byte) (s : State), s.resetAsserted = false → s.closing = false → s.rx.phase = .check → s.rx.expected = 1 →
    checkOk (s.rx.buffer ++ [b]) = false →
    exec (.byteReceived b) s =
      feedBytes (s.rx.buffer ++ [b]) (raise (.linkFrameDropped .check) { s with rx := receiverIdle })

/-- O33. REPLY_SEND_START with TXD idle takes the oldest reply from the list. The rate is 460,800 or 115,200 baud as
RATE was sampled. While a reply is being sent out of a line reset, TXD carries the bytes of its frame back to back, each
as a low start bit, eight data bits, least significant first, and a high stop bit; with none being sent TXD is high.
REPLY_SENT ends the reply being sent; in CLOSING with the list empty the full reset takes effect: every block at its
reset values, the rate kept, each slot whose line is low in SETTLING with 40 ms, both bus lines released. That CLOSING
ends at this REPLY_SENT is log 12, and that the full reset samples the level last taken from each line is log 16. The
pulse count and the receiver's count it leaves are the model's (log 11, log 23). The level of the start bit is log 24,
and that a data bit of 1 is high is log 25. (08_host_link_and_request_flow.md R150, R161, R165, R166;
03_slots_presence_and_overrides.md R43, R63; 04_the_sideband_bus_and_job_queue.md R92) -/
def Obligations.TransmitterSendsInOrder : Prop :=
  (∀ (r : Reply) (rest : List Reply) (s : State), s.sending = none → s.tx = r :: rest →
    exec .replySendStart s = .next { s with sending := some r, tx := rest }) ∧
  (∀ s : State, linkBaud s = if s.rateHigh = true then 460800 else 115200) ∧
  (∀ s : State, s.sending = none → txdLevels s = []) ∧
  ∀ (r : Reply) (s : State), s.sending = some r →
    (s.resetAsserted = false → txdLevels s = (replyFrame r).flatMap fun b =>
      [false, b.getLsbD 0, b.getLsbD 1, b.getLsbD 2, b.getLsbD 3, b.getLsbD 4, b.getLsbD 5, b.getLsbD 6, b.getLsbD 7,
        true]) ∧
    (s.closing = false ∨ s.tx ≠ [] → exec .replySent s = .next { s with sending := none }) ∧
    (s.closing = true → s.tx = [] →
      ∃ t, exec .replySent s = .next t ∧ busLines t = .released ∧ txdFrame t = none ∧ txdLevels t = [] ∧ t =
      { State.reset with
        pending := s.pending, resetAsserted := false, rateHigh := s.rateHigh, pres := s.pres
        slots := Eight.ofFn fun n =>
          if s.pres.get n = true then slotReset else { slotReset with state := .settling, settle := some 40 } })

/-- O34. A taken INFO, whatever its payload, completes with OK and the fourteen bytes of R206; nothing else changes. A
taken CONFIGURE with a settle time of 10 to 250 in steps of 10 and codes 0 or 1 completes OK with the configuration,
ALERT_N following alert enable and the queue; any other payload is BAD_ARGUMENT with nothing changed. A taken GET
TARGET completes with the record and the target generation, a GET LADDER with the ladder, whatever their payloads; a
taken SET LADDER with 1 to 12 strictly ascending periods in range completes OK with the ladder replaced and no
profile touched, and is BAD_ARGUMENT otherwise with nothing changed. (09_request_reference.md R167, R169;
11_formats_and_signals.md R204, R206; 05_target_record_and_period_ladder.md R102, R103; 09_request_reference.md
R170; 05_target_record_and_period_ladder.md R98, R99, R100; 09_request_reference.md R171, R172) -/
def Obligations.SettingsReadAndSet : Prop :=
  ((∀ (tag : Byte) (p : List Byte) (s : State), Taken s tag 0x01 →
    exec (.info tag p) s = .next (withReply tag 0x01 .ok
      [0x08, 0x0D, 1, 8, 12, 6, 12, 16, 4, BitVec.ofNat 8 s.config.settleMs,
        (match s.config.busSpeed with | .khz100 => 0 | .khz400 => 1), (if s.config.alertEnable = true then 1 else 0),
        (if s.rateHigh = true then 1 else 0),
        (match s.bus with | .idle => 0 | .busy => 1 | .recovering => 2 | .faulted => 3)] s)) ∧
  (∀ (tag : Byte) (s : State), Taken s tag 0x02 →
    let good := fun ms speed alert : Byte =>
      10 ≤ ms.toNat ∧ ms.toNat ≤ 250 ∧ ms.toNat % 10 = 0 ∧ speed.toNat ≤ 1 ∧ alert.toNat ≤ 1
    (∀ ms speed alert : Byte, good ms speed alert →
      exec (.configure tag [ms, speed, alert]) s = .next (withReply tag 0x02 .ok [ms, speed, alert]
        { s with
          config := { settleMs := ms.toNat, busSpeed := if speed = 0 then .khz100 else .khz400, alertEnable := alert == 1 }
          alertN := s.notices.isEmpty || alert == 0 })) ∧
    ∀ p : List Byte, (∀ ms speed alert : Byte, p = [ms, speed, alert] → ¬ good ms speed alert) →
      exec (.configure tag p) s = .next (withReply tag 0x02 .badArgument [] s))) ∧
  (∀ (tag : Byte) (p : List Byte) (s : State),
    (Taken s tag 0x04 →
      exec (.getTarget tag p) s = .next (withReply tag 0x04 .ok (targetPayload s.target ++ le2 s.targetGen.toNat) s)) ∧
    (Taken s tag 0x06 →
      exec (.getLadder tag p) s = .next
        (withReply tag 0x06 .ok (BitVec.ofNat 8 s.ladder.length :: s.ladder.flatMap le2) s)) ∧
    (Taken s tag 0x05 →
      (∀ ps, ladderOk ps = true → p = ladderPayload ps →
        exec (.setLadder tag p) s = .next (withReply tag 0x05 .ok [] { s with ladder := ps })) ∧
      ((∀ ps, ladderOk ps = true → p ≠ ladderPayload ps) →
        exec (.setLadder tag p) s = .next (withReply tag 0x05 .badArgument [] s))))

/-- O35. A payload of SET TARGET is accepted exactly when it is the eighteen bytes of a record in range, and is then the
very bytes GET TARGET shows for that record; a payload of SET LADDER is accepted exactly when it is the count and
periods of a ladder in range, and is then what GET LADDER shows. (05_target_record_and_period_ladder.md R93, R95,
R98, R99, R100; 11_formats_and_signals.md R205) -/
def Obligations.SettingsLayouts : Prop :=
  (∀ (p : List Byte) (t : Target), targetArg p = some t ↔ targetOk t = true ∧ p = targetPayload t) ∧
    (∀ t : Target, (targetPayload t).length = 18) ∧
    (∀ (p : List Byte) (ps : List Nat), ladderArg p = some ps ↔ ladderOk ps = true ∧ p = ladderPayload ps) ∧
    ∀ ps : List Nat, (ladderPayload ps).length = 1 + 2 * ps.length

/-- O36. A taken SET TARGET that is no record in range is BAD_ARGUMENT; one in range while an entry is applied is
IN_USE; otherwise it completes OK with the new generation, every VALID entry STALE with snapshot and result kept,
PROFILE_STALE raised for each, oldest first; refusals change nothing. (R95) -/
def Obligations.SetTargetStalesProfiles : Prop :=
  ∀ (tag : Byte) (p : List Byte) (s : State), Taken s tag 0x03 →
    ((∀ t, targetOk t = true → p ≠ targetPayload t) →
      exec (.setTarget tag p) s = .next (withReply tag 0x03 .badArgument [] s)) ∧
    ∀ t, targetOk t = true → p = targetPayload t →
      ((∃ e ∈ s.entries, e.applied = true) → exec (.setTarget tag p) s = .next (withReply tag 0x03 .inUse [] s)) ∧
      ((∀ e ∈ s.entries, e.applied = false) →
        exec (.setTarget tag p) s = .next (withReply tag 0x03 .ok (le2 (s.targetGen + 1).toNat)
          (raiseAll ((s.entries.filter isValid).map fun e => .profileStale e.handle)
            { s with
              target := t, targetGen := s.targetGen + 1
              entries := s.entries.map fun e =>
                match e.state with
                | .valid sn r => { e with state := .stale sn r }
                | _ => e })))

/-- O37. For every working record the steps are taken in order and the first that fails gives the failure record:
NOT_READY with the lowest slot not ready; MIXED_KIND, MIXED_CLASS and MIXED_WIDTH with the lowest slot that differs
from the first; WIDTH_MISMATCH with neither field; NOT_RATED_HOT with the lowest slot lacking EXT_RANGE; the reason
of the period choice with neither field; COUNT_OVERFLOW with the first parameter above 4095, then with REFRESH;
BUDGET_UNKNOWN with the lowest slot whose budget is UNTESTED. With no failure there is a result at the chosen period
and latency. For a copy that holds no decoded value the functions read a default (log 15).
(02_descriptor_validation.md R40; 06_resolution.md R111 to R115, R117, R118, R120 to R122, R124, R128) -/
def Obligations.ResolutionStepsInOrder : Prop :=
  ∀ (w : Work) (first : SlotCopy) (rest : List SlotCopy), w.copies = first :: rest →
    let failed := fun (r : FailureReason) (n : Option SlotNo) (q : Option Param) =>
      resolveWork w = .failure { reason := r, slot := n, param := q }
    let lowest := fun (bad : SlotCopy → Prop) (c : SlotCopy) =>
      ∃ front back, w.copies = front ++ c :: back ∧ bad c ∧ ∀ x ∈ front, ¬ bad x
    let passes := fun bad : SlotCopy → Prop => ∀ c ∈ w.copies, ¬ bad c
    let unready := fun c : SlotCopy =>
      ¬ (c.state = .valid ∧ (c.clash = false ∨ w.request.acceptSuspect = true) ∨
        c.state = .suspect ∧ w.request.acceptSuspect = true)
    let otherKind := fun c : SlotCopy => copyKind c ≠ copyKind first
    let otherClass := fun c : SlotCopy => copyClass c ≠ copyClass first
    let otherWidth := fun c : SlotCopy => copyWidth c ≠ copyWidth first
    let unexpected := ∃ e, w.target.expectedWidth = some e ∧ copyWidth first ≠ some e
    let unrated := fun c : SlotCopy => w.request.hot = true ∧ copyExtRange c = false
    let untried := fun c : SlotCopy => w.target.requireBudget = true ∧ copyBudget c = some .untested
    (∀ c, lowest unready c → failed .notReady (some c.slot) none) ∧
    (passes unready →
      (∀ c, lowest otherKind c → failed .mixedKind (some c.slot) none) ∧
      (passes otherKind →
        (∀ c, lowest otherClass c → failed .mixedClass (some c.slot) none) ∧
        (passes otherClass →
          (∀ c, lowest otherWidth c → failed .mixedWidth (some c.slot) none) ∧
          (passes otherWidth →
            (unexpected → failed .widthMismatch none none) ∧
            (¬ unexpected →
              (∀ c, lowest unrated c → failed .notRatedHot (some c.slot) none) ∧
              (passes unrated →
                (∀ r, choosePeriod w = .error r → failed r none none) ∧
                ∀ p l, choosePeriod w = .ok (p, l) → 0 < p → ∀ (k : Nine Nat) (interval : Nat), AreCounts w p k →
                  IsInterval w p interval →
                  let named : List (Param × Nat) :=
                    [(.opn, k.opn), (.cls, k.cls), (.hld, k.hld), (.cyc, k.cyc), (.rfr, k.rfr), (.trn, k.trn),
                      (.rcl, k.rcl), (.wrc, k.wrc), (.win, k.win)]
                  (∀ front back q n, named = front ++ (q, n) :: back → 4095 < n → (∀ x ∈ front, x.2 ≤ 4095) →
                    failed .countOverflow none (some q)) ∧
                  ((∀ x ∈ named, x.2 ≤ 4095) →
                    (interval < 1 ∨ 65535 < interval → failed .countOverflow none (some .refresh)) ∧
                    (1 ≤ interval → interval ≤ 65535 →
                      (∀ c, lowest untried c → failed .budgetUnknown (some c.slot) none) ∧
                      (passes untried →
                        ∃ r, resolveWork w = .result r ∧ r.period = p ∧ r.latency = l)))))))))

/-- O38. A taken LIST SLOTS completes with forty bytes, five for each slot. A taken GET SLOT completes OK with the view,
for SUMMARY and OVERRIDES in every state; an image view of a slot without a copy is NOT_CACHED; a slot above 7, a
view above 5 or another length is BAD_ARGUMENT. A taken GET PROFILE of a handle an entry holds completes OK with
that entry's handle, state, mark, creation number, request tag, request, and the snapshot, result or failure its
state holds, of any other handle it is UNKNOWN_PROFILE, and of another length BAD_ARGUMENT; a taken LIST PROFILES
completes OK with the number of FREE entries and eight bytes for each other entry, oldest first. The bytes of a view
and of the result and failure records are those ReplyBytes states. The period's place of a FASTEST request holds 0
(log 13). (09_request_reference.md R167, R173, R174, R175; 11_formats_and_signals.md R206; 07_the_profile_table.md
R147; 09_request_reference.md R185) -/
def Obligations.SlotAndProfileViews : Prop :=
  (∀ (tag : Byte) (p : List Byte) (s : State),
    (Taken s tag 0x10 → exec (.listSlots tag p) s = .next (withReply tag 0x10 .ok
      (allSlots.flatMap fun n =>
        [slotStateCode (s.slots.get n).state, BitVec.ofNat 8 (s.slots.get n).gen.toNat,
          BitVec.ofNat 8 ((s.slots.get n).gen.toNat / 256),
          (if scanPending s n = true then 1 else 0) + (if (s.slots.get n).clash = [] then 0 else 2),
          BitVec.ofNat 8 (s.slots.get n).overrides.length]) s)) ∧
    (Taken s tag 0x11 →
      (∀ (n : SlotNo) (v : View) (code : Byte), viewArg code = some v →
        let r := s.slots.get n
        (v = .summary ∨ v = .overrides ∨ r.image ≠ none →
          ∃ bytes, viewPayload s n v = some bytes ∧
            exec (.getSlot tag [BitVec.ofNat 8 n.val, code]) s = .next (withReply tag 0x11 .ok bytes s)) ∧
        (v ≠ .summary → v ≠ .overrides → r.image = none →
          exec (.getSlot tag [BitVec.ofNat 8 n.val, code]) s = .next (withReply tag 0x11 .notCached [] s))) ∧
      ((∀ sl code : Byte, p = [sl, code] → 8 ≤ sl.toNat ∨ 6 ≤ code.toNat) →
        exec (.getSlot tag p) s = .next (withReply tag 0x11 .badArgument [] s)))) ∧
  (let head := fun e : Entry =>
      [e.handle,
        (match e.state with
          | .queued _ => 1 | .building _ _ => 2 | .valid _ _ => 3 | .failed _ _ => 4 | .stale _ _ => 5),
        (if e.applied = true then 1 else 0)] ++ le4 e.creation.toNat ++
      [(match e.state with | .queued t => t | .building t _ => t | _ => 0)]
    let asked := fun r : ResolveRequest =>
      [BitVec.ofNat 8 r.slots.length] ++ r.slots.map (fun n => BitVec.ofNat 8 n.val) ++
      (match r.mode with | .fastest => [0, 0, 0] | .fixed q => [1, BitVec.ofNat 8 q, BitVec.ofNat 8 (q / 256)]) ++
      [(if r.hot = true then 1 else 0), (if r.acceptSuspect = true then 1 else 0)]
    let snap := fun sn : Snapshot => [(1 : Byte)] ++ le2 sn.target.toNat ++ sn.gens.flatMap fun g => le2 g.2.toNat
    ∀ (tag : Byte) (p : List Byte) (s : State),
    (Taken s tag 0x21 → (s.entries.map Entry.handle).Nodup →
      (∀ e ∈ s.entries, exec (.getProfile tag [e.handle]) s = .next (withReply tag 0x21 .ok
        (head e ++ asked e.request ++ (match e.state with
          | .queued _ => [0]
          | .building _ sn => snap sn
          | .valid sn r => snap sn ++ resultPayload r
          | .stale sn r => snap sn ++ resultPayload r
          | .failed sn f => snap sn ++ failurePayload f)) s)) ∧
      (∀ h : Byte, (∀ e ∈ s.entries, e.handle ≠ h) →
        exec (.getProfile tag [h]) s = .next (withReply tag 0x21 .unknownProfile [] s)) ∧
      (p.length ≠ 1 → exec (.getProfile tag p) s = .next (withReply tag 0x21 .badArgument [] s))) ∧
    (Taken s tag 0x22 → exec (.listProfiles tag p) s = .next (withReply tag 0x22 .ok
      ([BitVec.ofNat 8 (6 - s.entries.length), BitVec.ofNat 8 s.entries.length] ++ s.entries.flatMap head) s)))

/-- O39. A taken READ IMAGE of slot n, offset and length within the image completes OK with exactly those bytes of the
copy when every page it touches is marked valid, and is NOT_CACHED without a copy or with a touched page not valid;
it is BAD_ARGUMENT for another length of payload, a slot above 7, a length 0 or above 64, or an end above 256;
nothing else changes. (R177) -/
def Obligations.ReadImageFromTheCopy : Prop :=
  ∀ (tag : Byte) (s : State), Taken s tag 0x12 →
    (∀ (n : SlotNo) (off len : Byte), 1 ≤ len.toNat → len.toNat ≤ 64 → off.toNat + len.toNat ≤ 256 →
      let run := exec (.readImage tag [BitVec.ofNat 8 n.val, off, len]) s
      ((s.slots.get n).image = none → run = .next (withReply tag 0x12 .notCached [] s)) ∧
      ∀ c, (s.slots.get n).image = some c → CopyOk c →
        ((∀ a, off.toNat ≤ a → a < off.toNat + len.toNat → c.marks[a / 16]? = some true) →
          ∃ bytes, run = .next (withReply tag 0x12 .ok bytes s) ∧ bytes.length = len.toNat ∧
            ∀ i, i < len.toNat → bytes[i]? = c.bytes[off.toNat + i]?) ∧
        ((∃ a, off.toNat ≤ a ∧ a < off.toNat + len.toNat ∧ c.marks[a / 16]? = some false) →
          run = .next (withReply tag 0x12 .notCached [] s))) ∧
    ∀ p : List Byte,
      (∀ sl off len : Byte, p = [sl, off, len] →
        8 ≤ sl.toNat ∨ len = 0 ∨ 64 < len.toNat ∨ 256 < off.toNat + len.toNat) →
      exec (.readImage tag p) s = .next (withReply tag 0x12 .badArgument [] s)

/-- O40. A taken SET OVERRIDE with a slot, an overridable parameter and a value of 1 to 1,000,000 is NOT_READY for an
EMPTY or SETTLING slot, else IN_USE for a slot of the applied entry, else BAD_ARGUMENT for a ninth parameter; else
OK with the generation and the count: an equal value changes nothing, another value replaces in its place and a new
parameter is appended, with one increment and VALID entries of the slot STALE. Other payloads are BAD_ARGUMENT. A
taken CLEAR OVERRIDES of a slot is NOT_READY for EMPTY or SETTLING, else IN_USE for a slot of the applied entry,
else OK: an empty list changes nothing, a list with entries is emptied with one increment and VALID entries of the
slot STALE. Other payloads are BAD_ARGUMENT. (03_slots_presence_and_overrides.md R58, R59; 07_the_profile_table.md
R139; 09_request_reference.md R183) -/
def Obligations.OverrideRequests : Prop :=
  (∀ (tag : Byte) (s : State), Taken s tag 0x16 →
    (∀ (n : SlotNo) (q : Param) (v0 v1 v2 : Byte), q ∈ overridableParams →
      let value := v0.toNat + 256 * v1.toNat + 65536 * v2.toNat
      let r := s.slots.get n
      let run := exec (.setOverride tag [BitVec.ofNat 8 n.val, paramCode q, v0, v1, v2]) s
      1 ≤ value → value ≤ 1000000 →
      (r.state = .empty ∨ r.state = .settling → run = .next (withReply tag 0x16 .notReady [] s)) ∧
      (r.state ≠ .empty → r.state ≠ .settling →
        ((∃ e ∈ s.entries, e.applied = true ∧ n ∈ e.request.slots) → run = .next (withReply tag 0x16 .inUse [] s)) ∧
        ((∀ e ∈ s.entries, e.applied = true → n ∉ e.request.slots) →
          ((∀ o ∈ r.overrides, o.param ≠ q) → 8 ≤ r.overrides.length →
            run = .next (withReply tag 0x16 .badArgument [] s)) ∧
          ({ param := q, value := value } ∈ r.overrides →
            run = .next (withReply tag 0x16 .ok (le2 r.gen.toNat ++ [BitVec.ofNat 8 r.overrides.length]) s)) ∧
          ((∀ o ∈ r.overrides, o.param ≠ q) → r.overrides.length < 8 →
            run = .next (withReply tag 0x16 .ok (le2 (r.gen + 1).toNat ++ [BitVec.ofNat 8 (r.overrides.length + 1)])
              (staleSlots (fun m => m == n) { s with
                slots := s.slots.set n
                  { r with overrides := r.overrides ++ [{ param := q, value := value }], gen := r.gen + 1 } }))) ∧
          ∀ front back old, r.overrides = front ++ { param := q, value := old } :: back → old ≠ value →
            (∀ o ∈ front ++ back, o.param ≠ q) →
            run = .next (withReply tag 0x16 .ok (le2 (r.gen + 1).toNat ++ [BitVec.ofNat 8 r.overrides.length])
              (staleSlots (fun m => m == n) { s with
                slots := s.slots.set n
                  { r with overrides := front ++ { param := q, value := value } :: back, gen := r.gen + 1 } }))))) ∧
    ∀ p : List Byte,
      (∀ sl code v0 v1 v2 : Byte, p = [sl, code, v0, v1, v2] →
        8 ≤ sl.toNat ∨ (∀ q ∈ overridableParams, paramCode q ≠ code) ∨
          v0.toNat + 256 * v1.toNat + 65536 * v2.toNat = 0 ∨
          1000000 < v0.toNat + 256 * v1.toNat + 65536 * v2.toNat) →
      exec (.setOverride tag p) s = .next (withReply tag 0x16 .badArgument [] s)) ∧
  (∀ (tag : Byte) (s : State), Taken s tag 0x17 →
    (∀ n : SlotNo,
      let r := s.slots.get n
      let run := exec (.clearOverrides tag [BitVec.ofNat 8 n.val]) s
      (r.state = .empty ∨ r.state = .settling → run = .next (withReply tag 0x17 .notReady [] s)) ∧
      (r.state ≠ .empty → r.state ≠ .settling →
        ((∃ e ∈ s.entries, e.applied = true ∧ n ∈ e.request.slots) → run = .next (withReply tag 0x17 .inUse [] s)) ∧
        ((∀ e ∈ s.entries, e.applied = true → n ∉ e.request.slots) →
          (r.overrides = [] → run = .next (withReply tag 0x17 .ok (le2 r.gen.toNat ++ [0]) s)) ∧
          (r.overrides ≠ [] → run = .next (withReply tag 0x17 .ok (le2 (r.gen + 1).toNat ++ [0])
            (staleSlots (fun m => m == n)
              { s with slots := s.slots.set n { r with overrides := [], gen := r.gen + 1 } })))))) ∧
    ∀ p : List Byte, (∀ sl : Byte, p = [sl] → 8 ≤ sl.toNat) →
      exec (.clearOverrides tag p) s = .next (withReply tag 0x17 .badArgument [] s))

/-- O41. For incremented slots: every VALID entry whose snapshot holds one of them goes STALE and keeps snapshot, result
and mark, every other entry is unchanged; each raises APPLIED_BROKEN with the lowest such slot of its set when
applied and PROFILE_STALE when not, in the order of age; nothing else changes. (07_the_profile_table.md R139, R140) -/
def Obligations.IncrementStalesItsEntries : Prop :=
  ∀ (hit : SlotNo → Bool) (s : State),
    (∀ e ∈ s.entries, ∀ sn, snapshotOf e = some sn → sn.gens.map Prod.fst = e.request.slots) →
    let struck := fun e : Entry => isValid e && e.request.slots.any hit
    staleSlots hit s =
      raiseAll ((s.entries.filter struck).filterMap fun e =>
          if e.applied = true then (e.request.slots.find? hit).map (NoticeBody.appliedBroken e.handle)
          else some (.profileStale e.handle))
        { s with entries := s.entries.map fun e =>
          if struck e = true then
            match e.state with
            | .valid sn p => { e with state := .stale sn p }
            | _ => e
          else e }

/-- O42. A taken READ MODULE with arguments in range is NOT_READY for an EMPTY or SETTLING slot, else BUS_FAULT on a
FAULTED bus, else outstanding with a MODULE READ appended, which starts at once on an IDLE bus; other payloads are
BAD_ARGUMENT. A taken WRITE USER: a length not matching the count, a slot above 7 or a count 0 or above 16 is
BAD_ARGUMENT; then an offset below 208 is PROTECTED; then an end above 256 or bytes in two pages is BAD_ARGUMENT;
then a slot not classified is NOT_READY; then a FAULTED bus is BUS_FAULT; else the request is outstanding with a
USER WRITE appended. (09_request_reference.md R178; 04_the_sideband_bus_and_job_queue.md R69, R71;
09_request_reference.md R179; 04_the_sideband_bus_and_job_queue.md R69, R71, R77) -/
def Obligations.ModuleRequestChecks : Prop :=
  (∀ (tag : Byte) (s : State), Taken s tag 0x13 →
    (∀ (n : SlotNo) (off len : Byte), 1 ≤ len.toNat → len.toNat ≤ 64 → off.toNat + len.toNat ≤ 256 →
      let st := (s.slots.get n).state
      let run := exec (.readModule tag [BitVec.ofNat 8 n.val, off, len]) s
      (st = .empty ∨ st = .settling → run = .next (withReply tag 0x13 .notReady [] s)) ∧
      (st ≠ .empty → st ≠ .settling → s.bus = .faulted → run = .next (withReply tag 0x13 .busFault [] s)) ∧
      (st ≠ .empty → st ≠ .settling → s.bus ≠ .faulted → run = .next (startNext
        { s with
          inbox := s.inbox ++ [{ tag := tag, kind := 0x13, claim := .busJob }]
          jobs := s.jobs ++
            [{ work := .moduleRead n off.toNat len.toNat, presence := false, tags := [tag] }] }))) ∧
    ∀ p : List Byte,
      (∀ sl off len : Byte, p = [sl, off, len] →
        8 ≤ sl.toNat ∨ len = 0 ∨ 64 < len.toNat ∨ 256 < off.toNat + len.toNat) →
      exec (.readModule tag p) s = .next (withReply tag 0x13 .badArgument [] s)) ∧
  (∀ (tag : Byte) (s : State), Taken s tag 0x14 →
    (∀ (n : SlotNo) (off cnt : Byte) (data : List Byte), data.length = cnt.toNat → 1 ≤ cnt.toNat → cnt.toNat ≤ 16 →
      let st := (s.slots.get n).state
      let run := exec (.writeUser tag (BitVec.ofNat 8 n.val :: off :: cnt :: data)) s
      let last := off.toNat + cnt.toNat - 1
      (off.toNat < 208 → run = .next (withReply tag 0x14 .isProtected [] s)) ∧
      (208 ≤ off.toNat →
        (256 < off.toNat + cnt.toNat ∨ off.toNat / 16 ≠ last / 16 →
          run = .next (withReply tag 0x14 .badArgument [] s)) ∧
        (off.toNat + cnt.toNat ≤ 256 → off.toNat / 16 = last / 16 →
          (st ≠ .valid → st ≠ .suspect → st ≠ .unusable → run = .next (withReply tag 0x14 .notReady [] s)) ∧
          (st = .valid ∨ st = .suspect ∨ st = .unusable →
            (s.bus = .faulted → run = .next (withReply tag 0x14 .busFault [] s)) ∧
            (s.bus ≠ .faulted → run = .next (startNext
              { s with
                inbox := s.inbox ++ [{ tag := tag, kind := 0x14, claim := .busJob }]
                jobs := s.jobs ++
                  [{ work := .userWrite n off.toNat data, presence := false, tags := [tag] }] })))))) ∧
    ∀ p : List Byte,
      (∀ (sl off cnt : Byte) (data : List Byte), p = sl :: off :: cnt :: data →
        8 ≤ sl.toNat ∨ data.length ≠ cnt.toNat ∨ cnt = 0 ∨ 16 < cnt.toNat) →
      exec (.writeUser tag p) s = .next (withReply tag 0x14 .badArgument [] s))

/-- O43. The six views of a slot hold the fields of R206 in its order, low byte first, from the slot record and the
bytes of its image copy: SUMMARY 15 bytes; FAULTS with code and detail of each listed fault; TIMINGS with the stored
and the effective times, the override mask and values, latencies, refresh, thermal flags and budget; CLASS by the
class; IDENTITY; OVERRIDES in list order. An image view of a slot without a copy has no bytes. Scan pending is a
SCAN that waits or is in flight unmarked (R41). The result record, the failure record, the notice record and the
reply frame hold the fields of R206, R207, R151 and R204 in order. (03_slots_presence_and_overrides.md R41;
08_host_link_and_request_flow.md R151; 09_request_reference.md R175, R176; 11_formats_and_signals.md R202, R204,
R206, R207) -/
def Obligations.ReplyBytes : Prop :=
  (∀ n : Nat, le2 n = [BitVec.ofNat 8 n, BitVec.ofNat 8 (n / 256)] ∧
    le3 n = [BitVec.ofNat 8 n, BitVec.ofNat 8 (n / 256), BitVec.ofNat 8 (n / 65536)] ∧
    le4 n =
      [BitVec.ofNat 8 n, BitVec.ofNat 8 (n / 256), BitVec.ofNat 8 (n / 65536), BitVec.ofNat 8 (n / 16777216)]) ∧
  (∀ (i : Nat) (q : Param),
    ([.fper, .sper, .acc, .opn, .cls, .hld, .cyc, .rfr, .trn, .rcl, .wrc, .win, .refresh] : List Param)[i]? = some q →
      paramCode q = BitVec.ofNat 8 (i + 1)) ∧
  (∀ (i : Nat) (st : SlotState),
    ([.empty, .settling, .reading, .valid, .suspect, .unusable, .unreadable] : List SlotState)[i]? = some st →
      slotStateCode st = BitVec.ofNat 8 i) ∧
  (∀ (s : State) (n : SlotNo), scanPending s n = true ↔
    (∃ j ∈ s.jobs, j.work = .scan n) ∨ ∃ f, s.inFlight = some f ∧ f.job.work = .scan n ∧ f.stopMark = false) ∧
  (∀ (s : State) (n : SlotNo),
    let r := s.slots.get n
    let bit := fun x : Bool => if x = true then (1 : Byte) else 0
    let start :=
      [slotStateCode r.state, bit r.present] ++ le2 r.gen.toNat ++
      [bit (scanPending s n), (match r.cause with | none => 0 | some .noResponse => 1 | some .bus => 2),
        BitVec.ofNat 8 r.overrides.length, bit (!r.clash.isEmpty)]
    viewPayload s n .overrides = some (BitVec.ofNat 8 r.overrides.length ::
      r.overrides.flatMap fun o => paramCode o.param :: le3 o.value) ∧
    (r.image = none →
      viewPayload s n .summary = some (start ++ [0, 0, 0, 0, 0, 0, 0]) ∧
      ∀ v ∈ [View.faults, .timings, .cls, .identity], viewPayload s n v = none) ∧
    ∀ c, r.image = some c → c.bytes.length = 256 →
      let img := c.bytes
      let b := fun k : Nat => img.getD k 0
      let x := fun k : Nat => (b k).toNat
      let run := fun from_ len : Nat => (List.range len).map fun i => b (from_ + i)
      let coded := fun (k : Nat) (codes : List Byte) => codes.getD k 0xFF
      let stored : List (Param × List Byte) :=
        [(.fper, run 0x06 3), (.sper, run 0x09 2), (.acc, run 0x14 3), (.opn, run 0x17 3), (.cls, run 0x1A 3),
          (.hld, run 0x1D 2), (.cyc, run 0x1F 3), (.rfr, run 0x22 2), (.trn, run 0x24 1), (.rcl, run 0x25 1),
          (.wrc, run 0x26 1), (.win, run 0x27 2)]
      let overridable : List Param := [.acc, .opn, .cls, .hld, .cyc, .rfr, .trn, .rcl, .wrc, .win]
      viewPayload s n .summary = some (start ++
        [1, b 0x02, coded (x 0x03) [0, 1], coded (x 0x04 % 4) [32, 64, 72], coded (x 0x04 / 4 % 4) [1, 2, 4],
          BitVec.ofNat 8 (x 0x01 / 16), BitVec.ofNat 8 (x 0x01 % 16)]) ∧
      viewPayload s n .faults = some
        ([BitVec.ofNat 8 r.faults.length, bit r.more, bit (128 ≤ x 0x00)] ++ run 0xB0 2 ++
          le2 (crc (img.take (if 128 ≤ x 0x00 then 176 else 144))).toNat ++ r.faults.flatMap fun f =>
            match f with
            | .crcMismatch => [1, 0] | .formatMajor => [2, 0] | .kindUnknown => [3, 0] | .classUnknown => [4, 0]
            | .widthUnknown => [5, 0] | .ranksUnknown => [6, 0] | .grainUnknown => [7, 0]
            | .timeNotPositive q => [8, paramCode q] | .periodOrder => [9, 0] | .cycleShort => [10, 0]
            | .latencyList => [11, 0] | .refreshRange => [12, 0] | .thermalFlags => [13, 0] | .budgetCode => [14, 0]
            | .bufferKind => [15, 0]
            | .driveLevel g => [16, (match g with | .command => 0 | .control => 1 | .clockA => 2 | .clockB => 3)]
            | .makerParity m => [17, (match m with | .module => 0 | .buffer => 1)]
            | .dateBcd d => [18, (match d with | .year => 0 | .week => 1)]
            | .textChar i => [19, BitVec.ofNat 8 i]) ∧
      viewPayload s n .timings = some
        ([(if x 0x05 = 0 then 2 else if x 0x05 = 1 then 5 else 0)] ++
          (match (decodeImage img).times with
            | none => []
            | some t => stored.flatMap fun f => f.2 ++ le4 (BitVec.ofInt 32 (timeOf t f.1)).toNat) ++
          le2 (((List.range 10).map fun i =>
            if (r.overrides.any fun o => overridable[i]? == some o.param) = true then 2 ^ i else 0).sum) ++
          (overridable.flatMap fun q => ((r.overrides.find? fun o => o.param == q).map fun o => le3 o.value).getD []) ++
          run 0x0B 9 ++ run 0x29 2 ++ le4 ((x 0x29 + 256 * x 0x2A) * 50000) ++ [BitVec.ofNat 8 (x 0x2B % 4)] ++
          (if x 0x2C % 16 = 0 then [0, 0, 0]
          else if x 0x2C % 16 = 15 then [2, 0, 0]
          else if x 0x2C % 16 ≤ 9 ∧ x 0x2C / 16 % 4 ≤ 2 then
            [1, BitVec.ofNat 8 (x 0x2C % 16), coded (x 0x2C / 16 % 4) [1, 2, 4]]
          else [3, 0, 0])) ∧
      viewPayload s n .cls = some (b 0x03 ::
        (if x 0x03 = 0 then [b 0x50, b 0x51, BitVec.ofNat 8 (x 0x52 % 2)]
        else if x 0x03 = 1 then
          run 0x50 6 ++ [coded (x 0x56 % 4) [0, 1, 2], coded (x 0x56 / 4 % 4) [0, 1, 2],
            coded (x 0x56 / 16 % 4) [0, 1, 2], coded (x 0x56 / 64) [0, 1, 2]]
        else [])) ∧
      viewPayload s n .identity = some
        ([BitVec.ofNat 8 (x 0x90 % 32)] ++ run 0x90 5 ++ run 0x95 4 ++ run 0x99 20 ++ run 0x90 2 ++ run 0x93 6 ++
          [BitVec.ofNat 8 r.clash.length] ++ r.clash.map fun m => BitVec.ofNat 8 m.val)) ∧
  (∀ p : Profile, resultPayload p =
    le2 p.period ++ [BitVec.ofNat 8 p.latency] ++ le2 p.counts.opn ++ le2 p.counts.cls ++ le2 p.counts.hld ++
    le2 p.counts.cyc ++ le2 p.counts.rfr ++ le2 p.counts.trn ++ le2 p.counts.rcl ++ le2 p.counts.wrc ++
    le2 p.counts.win ++ le2 p.refresh ++ (match p.budget with | .unlimited => [0, 0, 0, 0, 0, 0] | .limited k win => le4 k ++ le2 win) ++
    [(if p.unknown = true then 1 else 0) + (if p.suspect = true then 2 else 0),
      (match p.cls with | .plain => 0 | .buffered => 1), BitVec.ofNat 8 p.outputs.length] ++
    p.outputs.flatMap fun o =>
      let code := fun d : Option DriveLevel =>
        match d with
        | some .light => 0
        | some .moderate => 1
        | some .strong => 2
        | none => 3
      [BitVec.ofNat 8 o.1.val,
        (match o.2 with
          | .rankSwap swap => if swap = true then 1 else 0
          | .drives d =>
            BitVec.ofNat 8 (code d.command + 4 * code d.control + 16 * code d.clockA + 64 * code d.clockB))]) ∧
  (∀ f : Failure, failurePayload f =
    [(match f.reason with
        | .notReady => 1 | .mixedKind => 2 | .mixedClass => 3 | .mixedWidth => 4 | .widthMismatch => 5
        | .notRatedHot => 6 | .noPeriod => 7 | .periodOutOfRange => 8 | .noLatency => 9 | .countOverflow => 10 | .budgetUnknown => 11),
      (match f.slot with | none => 0xFF | some n => BitVec.ofNat 8 n.val),
      (match f.param with | none => 0 | some q => paramCode q)]) ∧
  (∀ n : Notice, noticeBytes n = le2 n.seq.toNat ++
    (match n.body with
      | .slotInserted m => [1, BitVec.ofNat 8 m.val, 0, 0]
      | .slotRemoved m => [2, BitVec.ofNat 8 m.val, 0, 0]
      | .scanDone m st => [3, BitVec.ofNat 8 m.val, 0, slotStateCode st]
      | .moduleReplaced m => [4, BitVec.ofNat 8 m.val, 0, 0]
      | .duplicateIdentity m k => [5, BitVec.ofNat 8 m.val, 0, BitVec.ofNat 8 k.val]
      | .profileStale h => [6, 0xFF, h, 0]
      | .appliedBroken h m => [7, BitVec.ofNat 8 m.val, h, 0]
      | .busFaulted => [8, 0xFF, 0, 0]
      | .busRecovered => [9, 0xFF, 0, 0]
      | .linkFrameDropped d => [10, 0xFF, 0, (match d with | .gap => 0 | .length => 1 | .check => 2 | .overrun => 3)]
      | .noticesLost k => [11, 0xFF, 0, BitVec.ofNat 8 k])) ∧
  ∀ r : Reply, ∃ code : Nat,
    ([.ok, .full, .duplicateTag, .unknownKind, .badArgument, .notReady, .notCached, .isProtected, .inUse, .notFound,
      .unknownProfile, .tableFull, .busFault, .noResponse, .writeTimeout, .mismatch, .removed, .cancelled, .tooLate,
      .aborted, .stale, .failed] : List Status)[code]? = some r.status ∧
    let body := [BitVec.ofNat 8 (r.payload.length + 3), r.tag, r.kind ||| 0x80, BitVec.ofNat 8 code] ++ r.payload
    replyFrame r = [0xB6] ++ body ++ le2 (crc body).toNat

/-- O44. A taken RESCAN with a slot and a force code is NOT_READY for an EMPTY or SETTLING slot, else IN_USE without
force for a slot of the applied entry, else BUS_FAULT on a FAULTED bus, else outstanding with a scan demanded under
its tag; other payloads are BAD_ARGUMENT. A taken BUS RESET is outstanding in every bus state: on a FAULTED bus its
RECOVER starts at once, else it is appended. (09_request_reference.md R181, R189;
04_the_sideband_bus_and_job_queue.md R69, R71, R83, R84) -/
def Obligations.RescanAndBusReset : Prop :=
  ∀ (tag : Byte) (s : State),
    (Taken s tag 0x15 →
      (∀ (n : SlotNo) (force : Byte), force.toNat ≤ 1 →
        let st := (s.slots.get n).state
        let run := exec (.rescan tag [BitVec.ofNat 8 n.val, force]) s
        (st = .empty ∨ st = .settling → run = .next (withReply tag 0x15 .notReady [] s)) ∧
        (st ≠ .empty → st ≠ .settling →
          (force = 0 → (∃ e ∈ s.entries, e.applied = true ∧ n ∈ e.request.slots) →
            run = .next (withReply tag 0x15 .inUse [] s)) ∧
          (force = 1 ∨ (∀ e ∈ s.entries, e.applied = true → n ∉ e.request.slots) →
            (s.bus = .faulted → run = .next (withReply tag 0x15 .busFault [] s)) ∧
            (s.bus ≠ .faulted → run = .next (startNext (enqueueScan n false [tag]
              { s with inbox := s.inbox ++ [{ tag := tag, kind := 0x15, claim := .busJob }] })))))) ∧
      ∀ p : List Byte, (∀ sl force : Byte, p = [sl, force] → 8 ≤ sl.toNat ∨ 2 ≤ force.toNat) →
        exec (.rescan tag p) s = .next (withReply tag 0x15 .badArgument [] s)) ∧
    ∀ p : List Byte, Taken s tag 0x32 →
      let job : Job := { work := .recover, presence := false, tags := [tag] }
      let t : State := { s with inbox := s.inbox ++ [{ tag := tag, kind := 0x32, claim := .busJob }] }
      (s.bus = .faulted → exec (.busReset tag p) s = .next { t with
        bus := .recovering, pulses := 0, lineSpeed := s.config.busSpeed, inFlight := some (launch job true) }) ∧
      (s.bus ≠ .faulted → exec (.busReset tag p) s = .next (startNext { t with jobs := s.jobs ++ [job] }))

/-- O45. A taken RESOLVE with 1 to 8 distinct slots in any order, a mode, a period in range for FIXED and two flags:
with six entries none of which may be evicted it is TABLE_FULL; otherwise it is outstanding with a new entry at the
end of the age order, holding the slots in ascending order, the creation number, and the first handle from the
counter on that no other entry holds; the oldest unapplied STALE or FAILED entry is gone when six were held; with
the Resolver IDLE the entry is handed over at once. Any other payload, of a length that does not match its count,
with a count of 0 or above 8, a slot above 7 or named twice, an unknown mode, a FIXED period outside 300 to 20,000
or a flag outside its codes, is BAD_ARGUMENT with nothing changed. That the entries which are not FREE stand in one
list, oldest first, is log 6. (07_the_profile_table.md R132, R133, R134, R135, R136; 09_request_reference.md R167,
R184) -/
def Obligations.ResolveIsTaken : Prop :=
  (∀ (tag : Byte) (slots : List SlotNo) (mode : ResolveMode) (p0 p1 : Byte) (hot acc : Bool) (s : State),
    Taken s tag 0x20 → TableInv s → slots.Nodup → slots ≠ [] →
    (∀ q, mode = .fixed q → q = p0.toNat + 256 * p1.toNat ∧ 300 ≤ q ∧ q ≤ 20000) →
    let payload := BitVec.ofNat 8 slots.length :: slots.map (fun n => BitVec.ofNat 8 n.val) ++
      [(if mode = .fastest then 0 else 1), p0, p1, (if hot = true then 1 else 0), (if acc = true then 1 else 0)]
    let run := exec (.resolve tag payload) s
    (s.entries.length = 6 → (∀ e ∈ s.entries, evictable e = false) → run = .next (withReply tag 0x20 .tableFull [] s)) ∧
    ∀ kept : List Entry,
      (s.entries.length < 6 ∧ kept = s.entries ∨
        ∃ front back e, s.entries = front ++ e :: back ∧ s.entries.length = 6 ∧ evictable e = true ∧
          (∀ x ∈ front, evictable x = false) ∧ kept = front ++ back) →
      ∃ h : Byte, h ≠ 0 ∧ (∀ e ∈ kept, e.handle ≠ h) ∧
        (∃ k, k ≤ 5 ∧ succHandle^[k] s.nextHandle = h ∧ ∀ i, i < k → ∃ e ∈ kept, e.handle = succHandle^[i] s.nextHandle) ∧
        run = .next (handOver
          { s with
            inbox := s.inbox ++ [{ tag := tag, kind := 0x20, claim := .profile }]
            nextHandle := if h = 255 then 1 else h + 1, nextCreation := s.nextCreation + 1
            entries := kept ++
              [{ handle := h, creation := s.nextCreation, applied := false, state := .queued tag
                 request :=
                  { slots := allSlots.filter fun n => slots.contains n, mode := mode, hot := hot, acceptSuspect := acc } }] })) ∧
  ∀ (tag : Byte) (p : List Byte) (s : State), Taken s tag 0x20 →
    (∀ (slots : List Byte) (mode p0 p1 hot acc : Byte),
      p = BitVec.ofNat 8 slots.length :: slots ++ [mode, p0, p1, hot, acc] →
        slots = [] ∨ 8 < slots.length ∨ (∃ b ∈ slots, 8 ≤ b.toNat) ∨ ¬ slots.Nodup ∨ 2 ≤ mode.toNat ∨
          (mode = 1 ∧ (p0.toNat + 256 * p1.toNat < 300 ∨ 20000 < p0.toNat + 256 * p1.toNat)) ∨ 2 ≤ hot.toNat ∨
          2 ≤ acc.toNat) →
    exec (.resolve tag p) s = .next (withReply tag 0x20 .badArgument [] s)

/-- O46. A taken APPLY is UNKNOWN_PROFILE for a handle no entry holds, OK with nothing changed for the applied entry,
IN_USE when another is applied, NOT_READY for an entry that is not VALID, and otherwise OK with the mark set on that
entry alone; it raises no notice and changes no generation. (R142) -/
def Obligations.ApplyChecks : Prop :=
  ∀ (tag : Byte) (s : State), Taken s tag 0x23 → (s.entries.map Entry.handle).Nodup →
    (∀ h : Byte, (∀ e ∈ s.entries, e.handle ≠ h) →
      exec (.applyProfile tag [h]) s = .next (withReply tag 0x23 .unknownProfile [] s)) ∧
    (∀ e ∈ s.entries,
      let run := exec (.applyProfile tag [e.handle]) s
      (e.applied = true → run = .next (withReply tag 0x23 .ok [] s)) ∧
      (e.applied = false → (∃ x ∈ s.entries, x.applied = true) → run = .next (withReply tag 0x23 .inUse [] s)) ∧
      ((∀ x ∈ s.entries, x.applied = false) →
        ((∀ sn p, e.state ≠ .valid sn p) → run = .next (withReply tag 0x23 .notReady [] s)) ∧
        ∀ sn p, e.state = .valid sn p → run = .next (withReply tag 0x23 .ok []
          { s with entries := s.entries.map fun x => if x.handle = e.handle then { e with applied := true } else x }))) ∧
    ∀ p : List Byte, p.length ≠ 1 → exec (.applyProfile tag p) s = .next (withReply tag 0x23 .badArgument [] s)

/-- O47. A taken UNAPPLY is UNKNOWN_PROFILE for a handle no entry holds, OK with the mark cleared for the applied entry,
whose state, snapshot and result stay, NOT_FOUND for another entry; no notice is raised; where one entry at most is
applied, none is afterwards. (R143) -/
def Obligations.UnapplyChecks : Prop :=
  ∀ (tag : Byte) (s : State), Taken s tag 0x24 → (s.entries.map Entry.handle).Nodup →
    s.entries.countP Entry.applied ≤ 1 →
    (∀ h : Byte, (∀ e ∈ s.entries, e.handle ≠ h) →
      exec (.unapplyProfile tag [h]) s = .next (withReply tag 0x24 .unknownProfile [] s)) ∧
    (∀ e ∈ s.entries,
      (e.applied = true →
        let t := withReply tag 0x24 .ok []
          { s with entries := s.entries.map fun x => if x.handle = e.handle then { e with applied := false } else x }
        exec (.unapplyProfile tag [e.handle]) s = .next t ∧ ∀ x ∈ t.entries, x.applied = false) ∧
      (e.applied = false → exec (.unapplyProfile tag [e.handle]) s = .next (withReply tag 0x24 .notFound [] s))) ∧
    ∀ p : List Byte, p.length ≠ 1 → exec (.unapplyProfile tag p) s = .next (withReply tag 0x24 .badArgument [] s)

/-- O48. In a state that keeps the invariants a taken DROP is UNKNOWN_PROFILE for a handle no entry holds and IN_USE for
the applied entry; a VALID, STALE or FAILED entry becomes FREE with OK; a QUEUED or BUILDING one becomes FREE with
CANCELLED and its handle for its RESOLVE, then OK, and for a BUILDING one the work is abandoned and the oldest
QUEUED entry handed over. (R145) -/
def Obligations.DropFreesTheEntry : Prop :=
  ∀ (tag : Byte) (s : State), Taken s tag 0x25 → Inv s →
    (∀ h : Byte, (∀ e ∈ s.entries, e.handle ≠ h) →
      exec (.dropProfile tag [h]) s = .next (withReply tag 0x25 .unknownProfile [] s)) ∧
    (∀ e ∈ s.entries,
      let run := exec (.dropProfile tag [e.handle]) s
      let freed := { s with entries := s.entries.filter fun x => x.handle != e.handle }
      (e.applied = true → run = .next (withReply tag 0x25 .inUse [] s)) ∧
      (e.applied = false → requestTag e = none → run = .next (withReply tag 0x25 .ok [] freed)) ∧
      (∀ g, e.state = .queued g →
        run = .next (withReply tag 0x25 .ok [] (repliedTags .cancelled [e.handle] [g] freed))) ∧
      ∀ g sn, e.state = .building g sn →
        run = .next (withReply tag 0x25 .ok []
          (handOver { repliedTags .cancelled [e.handle] [g] freed with work := none }))) ∧
    ∀ p : List Byte, p.length ≠ 1 → exec (.dropProfile tag p) s = .next (withReply tag 0x25 .badArgument [] s)

/-- O49. A taken FETCH NOTICES with a maximum of 1 to 6 completes OK with the count and six bytes for each of the first
records up to the maximum, which leave the queue; ALERT_N is low afterwards exactly when records are left and alert
enable is on; a maximum of 0 or above 6, or another length, is BAD_ARGUMENT with nothing removed. (R197) -/
def Obligations.FetchRemovesFromTheFront : Prop :=
  ∀ (tag : Byte) (s : State), Taken s tag 0x30 →
    (∀ m : Byte, 1 ≤ m.toNat → m.toNat ≤ 6 →
      let given := s.notices.take m.toNat
      exec (.fetchNotices tag [m]) s = .next (withReply tag 0x30 .ok
        (BitVec.ofNat 8 given.length :: given.flatMap noticeBytes)
        { s with
          notices := s.notices.drop m.toNat
          alertN := (s.notices.drop m.toNat).isEmpty || !s.config.alertEnable })) ∧
    ∀ p : List Byte, (∀ m : Byte, p = [m] → m = 0 ∨ 6 < m.toNat) →
      exec (.fetchNotices tag p) s = .next (withReply tag 0x30 .badArgument [] s)

/-- O50. In a state that keeps the invariants a taken CANCEL of a tag not outstanding is NOT_FOUND. Of a tag on a
waiting job, the claim leaves it and the job leaves the queue when no claim is left; of a tag on a SCAN or MODULE
READ in flight, the claim leaves it and the job is stopped when no claim is left; of a RESOLVE, its entry is
dropped; each time CANCELLED then OK are placed. Of a USER WRITE or RECOVER in flight it is TOO_LATE with nothing
changed. (04_the_sideband_bus_and_job_queue.md R88, R89; 07_the_profile_table.md R146;
08_host_link_and_request_flow.md R162, R163; 09_request_reference.md R188) -/
def Obligations.CancelWithdrawsTheRequest : Prop :=
  ∀ (tag g : Byte) (s : State), Taken s tag 0x31 → Inv s →
    let run := exec (.cancel tag [g]) s
    let replied := withReply tag 0x31 .ok [] (repliedTags .cancelled [] [g] s)
    ((∀ o ∈ s.inbox, o.tag ≠ g) → run = .next (withReply tag 0x31 .notFound [] s)) ∧
    ((∃ j ∈ s.jobs, g ∈ j.tags) → run = .next { replied with
      jobs := (s.jobs.map fun j => { j with tags := j.tags.erase g }).filter fun j => !j.tags.isEmpty || j.presence }) ∧
    (∀ f, s.inFlight = some f → g ∈ f.job.tags →
      let left := { f with job := { f.job with tags := f.job.tags.erase g } }
      (isReading f.job = true →
        (f.job.presence = true ∨ f.job.tags ≠ [g] → run = .next { replied with inFlight := some left }) ∧
        (f.job.presence = false → f.job.tags = [g] → f.activity ≠ .retryWait →
          run = .next { replied with inFlight := some { left with stopMark := true } }) ∧
        (f.job.presence = false → f.job.tags = [g] → f.activity = .retryWait → run = .next (finishJob replied))) ∧
      (isReading f.job = false → run = .next (withReply tag 0x31 .tooLate [] s))) ∧
    (∀ e ∈ s.entries,
      let freed := { s with entries := s.entries.filter fun x => x.handle != e.handle }
      (e.state = .queued g →
        run = .next (withReply tag 0x31 .ok [] (repliedTags .cancelled [e.handle] [g] freed))) ∧
      ∀ sn, e.state = .building g sn →
        run = .next (withReply tag 0x31 .ok []
          (handOver { repliedTags .cancelled [e.handle] [g] freed with work := none }))) ∧
    ∀ p : List Byte, p.length ≠ 1 → exec (.cancel tag p) s = .next (withReply tag 0x31 .badArgument [] s)

/-- O51. A taken RESET SESSION replies every outstanding request ABORTED in the order taken, then OK, and empties the
inbox; entries are FREE, the Resolver IDLE, the counters restarted; the Notice Queue is empty with its counter kept
and ALERT_N released; override lists are emptied with an increment where they were not; the queue keeps only
presence scans, without tags; a job in flight loses its tags, and a SCAN without presence claim or a MODULE READ is
marked to stop, or ended when in a retry wait; everything else is kept. That the claimless waiting jobs leave before
a job ended in its retry wait starts the next one is log 21. (08_host_link_and_request_flow.md R164;
03_slots_presence_and_overrides.md R64; 04_the_sideband_bus_and_job_queue.md R90, R91; 07_the_profile_table.md R148;
10_notices_and_the_alert_line.md R200) -/
def Obligations.SessionResetKeepsTheModules : Prop :=
  ∀ (tag : Byte) (s : State), Taken s tag 0x33 →
    let run := exec (.resetSession tag [0]) s
    let t := { s with
      tx := s.tx ++ s.inbox.map (abortedReply s) ++ [{ tag := tag, kind := 0x33, status := .ok, payload := [] }]
      inbox := [], entries := [], work := none, nextHandle := 1, nextCreation := 0, notices := [], alertN := true
      slots := Eight.ofFn fun n =>
        if (s.slots.get n).overrides = [] then s.slots.get n
        else { s.slots.get n with overrides := [], gen := (s.slots.get n).gen + 1 }
      jobs := (s.jobs.filter fun j => j.presence).map fun j => { j with tags := [] } }
    let bare := fun f : InFlight => { f with job := { f.job with tags := [] } }
    (s.inFlight = none → run = .next t) ∧
    ∀ f, s.inFlight = some f →
      (isReading f.job = false ∨ isScan f.job = true ∧ f.job.presence = true →
        run = .next { t with inFlight := some (bare f) }) ∧
      (isReading f.job = true → ¬ (isScan f.job = true ∧ f.job.presence = true) → f.activity ≠ .retryWait →
        run = .next { t with inFlight := some { bare f with stopMark := true } }) ∧
      (isReading f.job = true → ¬ (isScan f.job = true ∧ f.job.presence = true) → f.activity = .retryWait →
        run = .next (finishJob t))

/-- O52. A taken RESET FULL replies every outstanding request ABORTED in the order taken, then OK, and enters CLOSING
with the receiver idle; QUEUED and BUILDING entries are FREE and the Resolver IDLE; host claims leave the jobs as at a
session reset; other entries, slots with their overrides, Settings and the Notice Queue are kept. A RESET whose payload
is neither scope is BAD_ARGUMENT. That the claimless waiting jobs leave before a job ended in its retry wait starts the
next one is log 21; the count 0 of the idle receiver is log 23. (08_host_link_and_request_flow.md R165;
04_the_sideband_bus_and_job_queue.md R90, R91; 09_request_reference.md R190) -/
def Obligations.FullResetBeginsClosing : Prop :=
  ∀ (tag : Byte) (s : State), Taken s tag 0x33 →
    let run := exec (.resetFull tag [1]) s
    let t := { s with
      tx := s.tx ++ s.inbox.map (abortedReply s) ++ [{ tag := tag, kind := 0x33, status := .ok, payload := [] }]
      inbox := [], entries := s.entries.filter fun e => (requestTag e).isNone, work := none, closing := true
      rx := receiverIdle, jobs := (s.jobs.filter fun j => j.presence).map fun j => { j with tags := [] } }
    let bare := fun f : InFlight => { f with job := { f.job with tags := [] } }
    (s.inFlight = none → run = .next t) ∧
    (∀ f, s.inFlight = some f →
      (isReading f.job = false ∨ isScan f.job = true ∧ f.job.presence = true →
        run = .next { t with inFlight := some (bare f) }) ∧
      (isReading f.job = true → ¬ (isScan f.job = true ∧ f.job.presence = true) → f.activity ≠ .retryWait →
        run = .next { t with inFlight := some { bare f with stopMark := true } }) ∧
      (isReading f.job = true → ¬ (isScan f.job = true ∧ f.job.presence = true) → f.activity = .retryWait →
        run = .next (finishJob t))) ∧
    ∀ p : List Byte, p ≠ [0] → p ≠ [1] →
      exec (.resetSession tag p) s = .next (withReply tag 0x33 .badArgument [] s) ∧
        exec (.resetFull tag p) s = .next (withReply tag 0x33 .badArgument [] s)

/-- O53. State.reset satisfies all the invariants, whatever commands wait. The levels State.reset holds for the lines
and the rate are the model's (log 2). (03_slots_presence_and_overrides.md R41; 08_host_link_and_request_flow.md
R166) -/
def Obligations.ResetKeepsInv : Prop :=
  ∀ pending : List Instr, Inv { State.reset with pending := pending }

/-- O54. From a state that keeps the invariants every step leaves at most four requests outstanding with distinct tags,
none of them 0, at most eight places taken, and none outstanding in CLOSING. From a state that keeps the invariants
every step leaves the host tags on jobs exactly the tags outstanding with a bus claim, and the request tags of
entries exactly those outstanding with a profile claim. (08_host_link_and_request_flow.md R156, R159, R165;
08_host_link_and_request_flow.md R159, R160; 04_the_sideband_bus_and_job_queue.md R68) -/
def Obligations.StepKeepsPlacesAndClaims : Prop :=
  ∀ s t : State, Inv s → step s = .next t → LinkInv t ∧ ClaimInv t

/-- O55. From a state that keeps the invariants every step leaves the receiver in one of its phases with the matching
count, buffer and timer, and the Target Record, the ladder and the settle time in their ranges. From a state that keeps
the invariants every step that leaves RESET_N asserted leaves every block at its line-reset values. Among those values
the presence lines held high, the rate held low, the pulse count 0 and the receiver's count 0 are the model's (log 2,
log 11, log 23), and so is that count in HUNT and LENGTH. (08_host_link_and_request_flow.md R152, R153;
05_target_record_and_period_ladder.md R93, R99, R102; 08_host_link_and_request_flow.md R166;
03_slots_presence_and_overrides.md R43) -/
def Obligations.StepKeepsReceiverSettingsAndReset : Prop :=
  ∀ s t : State, Inv s → step s = .next t → RxInv t.rx ∧ SettingsInv t ∧ ResetInv t

/-- O56. From a state that keeps the invariants every step leaves at most 15 ordinary entries and one NOTICES_LOST with
a tally of 1 to 255, consecutive sequence numbers up to the counter, and ALERT_N low exactly when the queue holds
something and alerts are on. (10_notices_and_the_alert_line.md R194, R195, R196, R198) -/
def Obligations.StepKeepsNoticeQueue : Prop :=
  ∀ s t : State, Inv s → step s = .next t → NoticeInv t

/-- O57. From a state that keeps the invariants every step leaves each slot's present field, settle timer, cause, copy,
faults, key and overrides as its state calls for, each clash set the one of the keys held, and a slot EMPTY exactly
while its line is high. From a state that keeps the invariants every step leaves classification, fault list, flag
and key of each slot with a copy as the Validator gives them for that copy, user-area writes included.
(03_slots_presence_and_overrides.md R41, R42, R47, R57, R60; 02_descriptor_validation.md R38;
02_descriptor_validation.md R23, R26; 03_slots_presence_and_overrides.md R57) -/
def Obligations.StepKeepsSlotRecords : Prop :=
  ∀ s t : State, Inv s → step s = .next t → SlotInv t ∧ ClashInv t ∧ PresenceInv t ∧ VerdictInv t

/-- O58. From a state that keeps the invariants every step leaves each slot in READING with a presence scan that waits
or is in flight unmarked; so no slot is in READING on a FAULTED bus. From a state that keeps the invariants every
step leaves the bus state matching the job in flight, no job waiting on an IDLE or FAULTED bus, each waiting job
with a claim, arguments in range and an occupied slot, never two waiting SCANs of one slot and never more than 12
waiting jobs, SCL and SDA released on an IDLE or FAULTED bus and in the recovery's use on a RECOVERING one.
(03_slots_presence_and_overrides.md R50, R55; 04_the_sideband_bus_and_job_queue.md R82;
04_the_sideband_bus_and_job_queue.md R65, R67, R70; 11_formats_and_signals.md R208) -/
def Obligations.StepKeepsBusAndQueue : Prop :=
  ∀ s t : State, Inv s → step s = .next t →
    ReadingInv t ∧ BusInv t ∧ QueueInv t ∧ t.jobs.length ≤ 12 ∧
      (t.bus = .idle ∨ t.bus = .faulted → busLines t = .released) ∧ (t.bus = .recovering → busLines t = .recovery)

/-- O59. From a state that keeps the invariants every step leaves the job in flight with arguments, attempts, polls and
bytes in range, marked exactly as R85 allows, and a slot it may still deliver to occupied.
(04_the_sideband_bus_and_job_queue.md R67, R72, R74, R78, R85) -/
def Obligations.StepKeepsJobInFlight : Prop :=
  ∀ s t : State, Inv s → step s = .next t → FlightInv t

/-- O60. From a state that keeps the invariants every step leaves at most six entries with distinct handles, at most one
applied and that in VALID or STALE, every VALID entry with the current generations, the Resolver working exactly on
the one BUILDING entry, and none QUEUED while it is IDLE. (07_the_profile_table.md R130, R132, R136, R139, R144;
06_resolution.md R105) -/
def Obligations.StepKeepsProfileTable : Prop :=
  ∀ s t : State, Inv s → step s = .next t → TableInv t ∧ ResolverInv t
end

