-- ==== Sys2Proof/Laws/Checks.lean ====
section
/-! SUPPORT. The invariants can be checked on a concrete state: each piece of `Inv` is decidable. Plain definitions, so that
a proof names the one it uses. -/

namespace Sys2Proof.Machine

@[reducible] def decAllSome {α : Type} (o : Option α) (P : α → Prop) (d : ∀ a, Decidable (P a)) :
    Decidable (∀ a, o = some a → P a) :=
  match o with
  | none => isTrue fun _ h => nomatch h
  | some x => @decidable_of_iff _ (P x) ⟨fun h _ e => Option.some.inj e ▸ h, fun h => h x rfl⟩ (d x)

@[reducible] def decExSome {α : Type} (o : Option α) (P : α → Prop) (d : ∀ a, Decidable (P a)) :
    Decidable (∃ a, o = some a ∧ P a) :=
  match o with
  | none => isFalse fun ⟨_, h, _⟩ => nomatch h
  | some x => @decidable_of_iff _ (P x) ⟨fun h => ⟨x, rfl, h⟩, fun ⟨_, e, h⟩ => Option.some.inj e ▸ h⟩ (d x)

@[reducible] def decLink (s : State) : Decidable (LinkInv s) := by unfold LinkInv; infer_instance

@[reducible] def decRx (r : Receiver) : Decidable (RxInv r) := by unfold RxInv; split <;> infer_instance

@[reducible] def decNotice (s : State) : Decidable (NoticeInv s) := by unfold NoticeInv; infer_instance

@[reducible] def decReset (s : State) : Decidable (ResetInv s) := by unfold ResetInv; infer_instance

@[reducible] def decSettings (s : State) : Decidable (SettingsInv s) := by unfold SettingsInv; infer_instance

@[reducible] def decOverride (o : Override) : Decidable (overrideOk o) := by unfold overrideOk; infer_instance

@[reducible] def decSlot (r : Slot) : Decidable (SlotOk r) := by
  unfold SlotOk
  have h1 : Decidable (∀ ms, r.settle = some ms → settleTimeOk ms = true) := decAllSome _ _ fun _ => inferInstance
  have h2 : Decidable (∀ o ∈ r.overrides, overrideOk o) := @List.decidableBAll _ _ decOverride r.overrides
  infer_instance

@[reducible] def decCopy (c : ImageCopy) : Decidable (CopyOk c) := by unfold CopyOk; infer_instance

@[reducible] def decSlots (s : State) : Decidable (SlotInv s) := by
  unfold SlotInv
  have h1 := fun n => decSlot (s.slots.get n)
  have h2 := fun n => decAllSome (s.slots.get n).image CopyOk decCopy
  infer_instance

@[reducible] def decVerdict (s : State) : Decidable (VerdictInv s) := by
  unfold VerdictInv
  have h := fun n => decAllSome (s.slots.get n).image
    (fun c => (s.slots.get n).state = (validate c.bytes).classification ∧ (s.slots.get n).faults = (validate c.bytes).faults ∧
      (s.slots.get n).more = (validate c.bytes).more ∧ (s.slots.get n).key = some (validate c.bytes).key)
    fun _ => inferInstance
  infer_instance

@[reducible] def decClash (s : State) : Decidable (ClashInv s) := by unfold ClashInv; infer_instance

@[reducible] def decPresence (s : State) : Decidable (PresenceInv s) := by unfold PresenceInv; infer_instance

@[reducible] def decReading (s : State) : Decidable (ReadingInv s) := by
  unfold ReadingInv
  have h := fun n => decExSome s.inFlight (fun f => presenceScanOf n f.job = true ∧ f.stopMark = false) fun _ => inferInstance
  infer_instance

@[reducible] def decBus (s : State) : Decidable (BusInv s) := by unfold BusInv; split <;> infer_instance

@[reducible] def decWaiting (s : State) (j : Job) : Decidable (WaitingOk s j) := by
  unfold WaitingOk
  have h := decAllSome (slotOfWork j.work) (fun n => occupied (s.slots.get n).state = true) fun _ => inferInstance
  infer_instance

@[reducible] def decQueue (s : State) : Decidable (QueueInv s) := by
  unfold QueueInv
  have h : Decidable (∀ j ∈ s.jobs, WaitingOk s j) := @List.decidableBAll _ _ (decWaiting s) s.jobs
  infer_instance

@[reducible] def decFlightOk (s : State) (f : InFlight) : Decidable (FlightOk s f) := by
  unfold FlightOk
  have h := decAllSome (slotOfWork f.job.work)
    (fun n => f.stopMark = false → f.activity ≠ .stopCondition → occupied (s.slots.get n).state = true)
    fun _ => inferInstance
  infer_instance

@[reducible] def decFlight (s : State) : Decidable (FlightInv s) := decAllSome s.inFlight (FlightOk s) (decFlightOk s)

@[reducible] def decClaims (s : State) : Decidable (ClaimInv s) := by unfold ClaimInv; infer_instance

@[reducible] def decEntry (s : State) (e : Entry) : Decidable (EntryOk s e) := by
  unfold EntryOk
  have h1 := decAllSome (snapshotOf e) (fun sn => sn.gens.map Prod.fst = e.request.slots) fun _ => inferInstance
  have h2 := decAllSome (snapshotOf e) (fun sn => isValid e = true → snapshotCurrent s sn = true) fun _ => inferInstance
  infer_instance

@[reducible] def decTable (s : State) : Decidable (TableInv s) := by
  unfold TableInv
  have h : Decidable (∀ e ∈ s.entries, EntryOk s e) := @List.decidableBAll _ _ (decEntry s) s.entries
  infer_instance

@[reducible] def decResolver (s : State) : Decidable (ResolverInv s) := by unfold ResolverInv; split <;> infer_instance

/-- All of it. -/
@[reducible] def decInv (s : State) : Decidable (Inv s) :=
  have := decLink s; have := decRx s.rx; have := decNotice s; have := decReset s; have := decSettings s
  have := decSlots s; have := decVerdict s; have := decClash s; have := decPresence s; have := decReading s
  have := decBus s; have := decQueue s; have := decFlight s; have := decClaims s; have := decTable s
  have := decResolver s
  decidable_of_iff
    (LinkInv s ∧ RxInv s.rx ∧ NoticeInv s ∧ ResetInv s ∧ SettingsInv s ∧ SlotInv s ∧ VerdictInv s ∧ ClashInv s ∧
      PresenceInv s ∧ ReadingInv s ∧ BusInv s ∧ QueueInv s ∧ FlightInv s ∧ ClaimInv s ∧ TableInv s ∧ ResolverInv s)
    ⟨fun ⟨h1, h2, h3, h4, h5, h6, h7, h8, h9, h10, h11, h12, h13, h14, h15, h16⟩ =>
        ⟨h1, h2, h3, h4, h5, h6, h7, h8, h9, h10, h11, h12, h13, h14, h15, h16⟩,
      fun ⟨h1, h2, h3, h4, h5, h6, h7, h8, h9, h10, h11, h12, h13, h14, h15, h16⟩ =>
        ⟨h1, h2, h3, h4, h5, h6, h7, h8, h9, h10, h11, h12, h13, h14, h15, h16⟩⟩

end Sys2Proof.Machine
end

