-- ==== Sys2Proof/Laws/Data.lean ====
section
/-! SUPPORT. Laws of the plain data: the eight things of the slots, payload bytes, runs of bytes. -/

namespace Sys2Proof

namespace Eight

@[simp] theorem get_ofFn {α : Type} (f : SlotNo → α) (n : SlotNo) : (ofFn f).get n = f n := by
  fin_cases n <;> rfl

/-- Two families with the same thing for each slot are equal. -/
theorem ext_get {α : Type} {v w : Eight α} (h : ∀ n, v.get n = w.get n) : v = w := by
  cases v; cases w
  have h0 := h 0; have h1 := h 1; have h2 := h 2; have h3 := h 3
  have h4 := h 4; have h5 := h 5; have h6 := h 6; have h7 := h 7
  simp only [get] at h0 h1 h2 h3 h4 h5 h6 h7
  simp only [h0, h1, h2, h3, h4, h5, h6, h7]

theorem get_set {α : Type} (v : Eight α) (n m : SlotNo) (a : α) : (v.set n a).get m = if m = n then a else v.get m := by
  simp [set]

@[simp] theorem get_set_same {α : Type} (v : Eight α) (n : SlotNo) (a : α) : (v.set n a).get n = a := by simp [set]

theorem get_set_other {α : Type} (v : Eight α) {n m : SlotNo} (a : α) (h : m ≠ n) : (v.set n a).get m = v.get m := by
  simp [set, h]

@[simp] theorem set_set {α : Type} (v : Eight α) (n : SlotNo) (a b : α) : (v.set n a).set n b = v.set n b := by
  apply ext_get; intro m; simp only [get_set]; split <;> rfl

@[simp] theorem set_get {α : Type} (v : Eight α) (n : SlotNo) : v.set n (v.get n) = v := by
  apply ext_get; intro m; simp only [get_set]; split
  · next h => rw [h]
  · rfl

@[simp] theorem ofFn_get {α : Type} (v : Eight α) : (ofFn fun n => v.get n) = v := by
  apply ext_get; intro m; simp

end Eight

@[simp] theorem mem_allSlots (n : SlotNo) : n ∈ allSlots := by fin_cases n <;> simp [allSlots]

theorem allSlots_nodup : allSlots.Nodup := by decide

namespace Machine

/-! ### Bytes -/

@[simp] theorem le2_length (n : Nat) : (le2 n).length = 2 := rfl
@[simp] theorem le3_length (n : Nat) : (le3 n).length = 3 := rfl
@[simp] theorem le4_length (n : Nat) : (le4 n).length = 4 := rfl

/-- A two-byte value is read back as it was written. -/
theorem ofLe2_le2 (n : Nat) (h : n < 0x10000) : ofLe2 (byte n) (byte (n / 0x100)) = n := by
  simp only [ofLe2, byte, BitVec.toNat_ofNat]; omega

/-- Two bytes are written back as they were read. -/
theorem le2_ofLe2 (a b : Byte) : le2 (ofLe2 a b) = [a, b] := by
  have ha := a.isLt; have hb := b.isLt
  simp only [le2, byte, ofLe2, List.cons.injEq, and_true]
  refine ⟨BitVec.eq_of_toNat_eq ?_, BitVec.eq_of_toNat_eq ?_⟩ <;> simp only [BitVec.toNat_ofNat] <;> omega

/-- A three-byte value is read back as it was written. -/
theorem ofLe3_le3 (n : Nat) (h : n < 0x1000000) : ofLe3 (byte n) (byte (n / 0x100)) (byte (n / 0x10000)) = n := by
  simp only [ofLe3, byte, BitVec.toNat_ofNat]; omega

theorem ofLe2_lt (a b : Byte) : ofLe2 a b < 0x10000 := by
  have ha := a.isLt; have hb := b.isLt; simp only [ofLe2]; omega

@[simp] theorem byte_toNat (b : Byte) : byte b.toNat = b := by simp [byte]

/-- A slot number is read back from its byte. -/
@[simp] theorem slotArg_slot (n : SlotNo) : slotArg (BitVec.ofNat 8 n.val) = some n := by fin_cases n <;> rfl

theorem slotArg_none (b : Byte) : slotArg b = none ↔ 8 ≤ b.toNat := by simp [slotArg]

/-- Each overridable parameter is read back from its code. -/
theorem overridableArg_code (q : Param) (h : q ∈ overridableParams) : overridableArg (paramCode q) = some q := by
  revert h; cases q <;> decide

/-- Writing over a run of bytes keeps its length. -/
@[simp] theorem overlay_length (bs : List Byte) (off : Nat) (data : List Byte) : (overlay bs off data).length = bs.length := by
  induction bs generalizing off data with
  | nil => simp [overlay]
  | cons b bs ih => cases off <;> cases data <;> simp [overlay, ih]

/-- The byte at a position after a run has been written over. -/
theorem overlay_getElem? (bs : List Byte) (off : Nat) (data : List Byte) (a : Nat) (h : a < bs.length) :
    (overlay bs off data)[a]? = if off ≤ a ∧ a < off + data.length then data[a - off]? else bs[a]? := by
  induction bs generalizing off data a with
  | nil => simp at h
  | cons b bs ih =>
    cases off with
    | zero =>
      cases data with
      | nil => simp [overlay]
      | cons d ds =>
        cases a with
        | zero => simp [overlay]
        | succ a =>
          have := ih 0 ds a (by simpa using h)
          simp [overlay, this]
    | succ off =>
      cases a with
      | zero => simp [overlay]
      | succ a =>
        have := ih off data a (by simpa using h)
        simp only [overlay, List.getElem?_cons_succ, this, Nat.add_sub_add_right]
        congr 1
        simp only [eq_iff_iff]; omega

/-- A write that starts at `k` or above leaves the first `k` bytes as they were. -/
theorem overlay_take (bs : List Byte) (off : Nat) (data : List Byte) (k : Nat) (h : k ≤ off) :
    (overlay bs off data).take k = bs.take k := by
  apply List.ext_getElem?
  intro a
  by_cases hk : a < k
  · rw [List.getElem?_take_of_lt hk, List.getElem?_take_of_lt hk]
    by_cases hb : a < bs.length
    · rw [overlay_getElem? bs off data a hb]; split
      · omega
      · rfl
    · rw [List.getElem?_eq_none (by simpa using hb), List.getElem?_eq_none (by simpa using hb)]
  · rw [List.getElem?_eq_none (by simp; omega), List.getElem?_eq_none (by simp; omega)]

end Machine

end Sys2Proof
end

