-- ==== Sys2Proof/Laws/State.lean ====
section
/-! SUPPORT. What each plain update of the state leaves as it was: one lemma for a field, true by definition. -/

namespace Sys2Proof.Machine

/-! ### updateAlert -/

@[simp] theorem updateAlert_pending (s : State) : (updateAlert s).pending = s.pending := rfl
@[simp] theorem updateAlert_resetAsserted (s : State) : (updateAlert s).resetAsserted = s.resetAsserted := rfl
@[simp] theorem updateAlert_pres (s : State) : (updateAlert s).pres = s.pres := rfl
@[simp] theorem updateAlert_rateHigh (s : State) : (updateAlert s).rateHigh = s.rateHigh := rfl
@[simp] theorem updateAlert_rx (s : State) : (updateAlert s).rx = s.rx := rfl
@[simp] theorem updateAlert_inbox (s : State) : (updateAlert s).inbox = s.inbox := rfl
@[simp] theorem updateAlert_tx (s : State) : (updateAlert s).tx = s.tx := rfl
@[simp] theorem updateAlert_sending (s : State) : (updateAlert s).sending = s.sending := rfl
@[simp] theorem updateAlert_closing (s : State) : (updateAlert s).closing = s.closing := rfl
@[simp] theorem updateAlert_slots (s : State) : (updateAlert s).slots = s.slots := rfl
@[simp] theorem updateAlert_bus (s : State) : (updateAlert s).bus = s.bus := rfl
@[simp] theorem updateAlert_jobs (s : State) : (updateAlert s).jobs = s.jobs := rfl
@[simp] theorem updateAlert_inFlight (s : State) : (updateAlert s).inFlight = s.inFlight := rfl
@[simp] theorem updateAlert_lineSpeed (s : State) : (updateAlert s).lineSpeed = s.lineSpeed := rfl
@[simp] theorem updateAlert_pulses (s : State) : (updateAlert s).pulses = s.pulses := rfl
@[simp] theorem updateAlert_config (s : State) : (updateAlert s).config = s.config := rfl
@[simp] theorem updateAlert_target (s : State) : (updateAlert s).target = s.target := rfl
@[simp] theorem updateAlert_targetGen (s : State) : (updateAlert s).targetGen = s.targetGen := rfl
@[simp] theorem updateAlert_ladder (s : State) : (updateAlert s).ladder = s.ladder := rfl
@[simp] theorem updateAlert_work (s : State) : (updateAlert s).work = s.work := rfl
@[simp] theorem updateAlert_entries (s : State) : (updateAlert s).entries = s.entries := rfl
@[simp] theorem updateAlert_nextHandle (s : State) : (updateAlert s).nextHandle = s.nextHandle := rfl
@[simp] theorem updateAlert_nextCreation (s : State) : (updateAlert s).nextCreation = s.nextCreation := rfl
@[simp] theorem updateAlert_notices (s : State) : (updateAlert s).notices = s.notices := rfl
@[simp] theorem updateAlert_nextSeq (s : State) : (updateAlert s).nextSeq = s.nextSeq := rfl

/-! ### appendNotice -/

@[simp] theorem appendNotice_pending (b : NoticeBody) (s : State) : (appendNotice b s).pending = s.pending := rfl
@[simp] theorem appendNotice_resetAsserted (b : NoticeBody) (s : State) : (appendNotice b s).resetAsserted = s.resetAsserted := rfl
@[simp] theorem appendNotice_pres (b : NoticeBody) (s : State) : (appendNotice b s).pres = s.pres := rfl
@[simp] theorem appendNotice_alertN (b : NoticeBody) (s : State) : (appendNotice b s).alertN = s.alertN := rfl
@[simp] theorem appendNotice_rateHigh (b : NoticeBody) (s : State) : (appendNotice b s).rateHigh = s.rateHigh := rfl
@[simp] theorem appendNotice_rx (b : NoticeBody) (s : State) : (appendNotice b s).rx = s.rx := rfl
@[simp] theorem appendNotice_inbox (b : NoticeBody) (s : State) : (appendNotice b s).inbox = s.inbox := rfl
@[simp] theorem appendNotice_tx (b : NoticeBody) (s : State) : (appendNotice b s).tx = s.tx := rfl
@[simp] theorem appendNotice_sending (b : NoticeBody) (s : State) : (appendNotice b s).sending = s.sending := rfl
@[simp] theorem appendNotice_closing (b : NoticeBody) (s : State) : (appendNotice b s).closing = s.closing := rfl
@[simp] theorem appendNotice_slots (b : NoticeBody) (s : State) : (appendNotice b s).slots = s.slots := rfl
@[simp] theorem appendNotice_bus (b : NoticeBody) (s : State) : (appendNotice b s).bus = s.bus := rfl
@[simp] theorem appendNotice_jobs (b : NoticeBody) (s : State) : (appendNotice b s).jobs = s.jobs := rfl
@[simp] theorem appendNotice_inFlight (b : NoticeBody) (s : State) : (appendNotice b s).inFlight = s.inFlight := rfl
@[simp] theorem appendNotice_lineSpeed (b : NoticeBody) (s : State) : (appendNotice b s).lineSpeed = s.lineSpeed := rfl
@[simp] theorem appendNotice_pulses (b : NoticeBody) (s : State) : (appendNotice b s).pulses = s.pulses := rfl
@[simp] theorem appendNotice_config (b : NoticeBody) (s : State) : (appendNotice b s).config = s.config := rfl
@[simp] theorem appendNotice_target (b : NoticeBody) (s : State) : (appendNotice b s).target = s.target := rfl
@[simp] theorem appendNotice_targetGen (b : NoticeBody) (s : State) : (appendNotice b s).targetGen = s.targetGen := rfl
@[simp] theorem appendNotice_ladder (b : NoticeBody) (s : State) : (appendNotice b s).ladder = s.ladder := rfl
@[simp] theorem appendNotice_work (b : NoticeBody) (s : State) : (appendNotice b s).work = s.work := rfl
@[simp] theorem appendNotice_entries (b : NoticeBody) (s : State) : (appendNotice b s).entries = s.entries := rfl
@[simp] theorem appendNotice_nextHandle (b : NoticeBody) (s : State) : (appendNotice b s).nextHandle = s.nextHandle := rfl
@[simp] theorem appendNotice_nextCreation (b : NoticeBody) (s : State) : (appendNotice b s).nextCreation = s.nextCreation := rfl

/-! ### place -/

@[simp] theorem place_pending (r : Reply) (s : State) : (place r s).pending = s.pending := rfl
@[simp] theorem place_resetAsserted (r : Reply) (s : State) : (place r s).resetAsserted = s.resetAsserted := rfl
@[simp] theorem place_pres (r : Reply) (s : State) : (place r s).pres = s.pres := rfl
@[simp] theorem place_alertN (r : Reply) (s : State) : (place r s).alertN = s.alertN := rfl
@[simp] theorem place_rateHigh (r : Reply) (s : State) : (place r s).rateHigh = s.rateHigh := rfl
@[simp] theorem place_rx (r : Reply) (s : State) : (place r s).rx = s.rx := rfl
@[simp] theorem place_inbox (r : Reply) (s : State) : (place r s).inbox = s.inbox := rfl
@[simp] theorem place_sending (r : Reply) (s : State) : (place r s).sending = s.sending := rfl
@[simp] theorem place_closing (r : Reply) (s : State) : (place r s).closing = s.closing := rfl
@[simp] theorem place_slots (r : Reply) (s : State) : (place r s).slots = s.slots := rfl
@[simp] theorem place_bus (r : Reply) (s : State) : (place r s).bus = s.bus := rfl
@[simp] theorem place_jobs (r : Reply) (s : State) : (place r s).jobs = s.jobs := rfl
@[simp] theorem place_inFlight (r : Reply) (s : State) : (place r s).inFlight = s.inFlight := rfl
@[simp] theorem place_lineSpeed (r : Reply) (s : State) : (place r s).lineSpeed = s.lineSpeed := rfl
@[simp] theorem place_pulses (r : Reply) (s : State) : (place r s).pulses = s.pulses := rfl
@[simp] theorem place_config (r : Reply) (s : State) : (place r s).config = s.config := rfl
@[simp] theorem place_target (r : Reply) (s : State) : (place r s).target = s.target := rfl
@[simp] theorem place_targetGen (r : Reply) (s : State) : (place r s).targetGen = s.targetGen := rfl
@[simp] theorem place_ladder (r : Reply) (s : State) : (place r s).ladder = s.ladder := rfl
@[simp] theorem place_work (r : Reply) (s : State) : (place r s).work = s.work := rfl
@[simp] theorem place_entries (r : Reply) (s : State) : (place r s).entries = s.entries := rfl
@[simp] theorem place_nextHandle (r : Reply) (s : State) : (place r s).nextHandle = s.nextHandle := rfl
@[simp] theorem place_nextCreation (r : Reply) (s : State) : (place r s).nextCreation = s.nextCreation := rfl
@[simp] theorem place_notices (r : Reply) (s : State) : (place r s).notices = s.notices := rfl
@[simp] theorem place_nextSeq (r : Reply) (s : State) : (place r s).nextSeq = s.nextSeq := rfl

/-! ### answer -/

@[simp] theorem answer_pending (tag kind : Byte) (st : Status) (payload : List Byte) (s : State) : (answer tag kind st payload s).pending = s.pending := rfl
@[simp] theorem answer_resetAsserted (tag kind : Byte) (st : Status) (payload : List Byte) (s : State) : (answer tag kind st payload s).resetAsserted = s.resetAsserted := rfl
@[simp] theorem answer_pres (tag kind : Byte) (st : Status) (payload : List Byte) (s : State) : (answer tag kind st payload s).pres = s.pres := rfl
@[simp] theorem answer_alertN (tag kind : Byte) (st : Status) (payload : List Byte) (s : State) : (answer tag kind st payload s).alertN = s.alertN := rfl
@[simp] theorem answer_rateHigh (tag kind : Byte) (st : Status) (payload : List Byte) (s : State) : (answer tag kind st payload s).rateHigh = s.rateHigh := rfl
@[simp] theorem answer_rx (tag kind : Byte) (st : Status) (payload : List Byte) (s : State) : (answer tag kind st payload s).rx = s.rx := rfl
@[simp] theorem answer_inbox (tag kind : Byte) (st : Status) (payload : List Byte) (s : State) : (answer tag kind st payload s).inbox = s.inbox := rfl
@[simp] theorem answer_sending (tag kind : Byte) (st : Status) (payload : List Byte) (s : State) : (answer tag kind st payload s).sending = s.sending := rfl
@[simp] theorem answer_closing (tag kind : Byte) (st : Status) (payload : List Byte) (s : State) : (answer tag kind st payload s).closing = s.closing := rfl
@[simp] theorem answer_slots (tag kind : Byte) (st : Status) (payload : List Byte) (s : State) : (answer tag kind st payload s).slots = s.slots := rfl
@[simp] theorem answer_bus (tag kind : Byte) (st : Status) (payload : List Byte) (s : State) : (answer tag kind st payload s).bus = s.bus := rfl
@[simp] theorem answer_jobs (tag kind : Byte) (st : Status) (payload : List Byte) (s : State) : (answer tag kind st payload s).jobs = s.jobs := rfl
@[simp] theorem answer_inFlight (tag kind : Byte) (st : Status) (payload : List Byte) (s : State) : (answer tag kind st payload s).inFlight = s.inFlight := rfl
@[simp] theorem answer_lineSpeed (tag kind : Byte) (st : Status) (payload : List Byte) (s : State) : (answer tag kind st payload s).lineSpeed = s.lineSpeed := rfl
@[simp] theorem answer_pulses (tag kind : Byte) (st : Status) (payload : List Byte) (s : State) : (answer tag kind st payload s).pulses = s.pulses := rfl
@[simp] theorem answer_config (tag kind : Byte) (st : Status) (payload : List Byte) (s : State) : (answer tag kind st payload s).config = s.config := rfl
@[simp] theorem answer_target (tag kind : Byte) (st : Status) (payload : List Byte) (s : State) : (answer tag kind st payload s).target = s.target := rfl
@[simp] theorem answer_targetGen (tag kind : Byte) (st : Status) (payload : List Byte) (s : State) : (answer tag kind st payload s).targetGen = s.targetGen := rfl
@[simp] theorem answer_ladder (tag kind : Byte) (st : Status) (payload : List Byte) (s : State) : (answer tag kind st payload s).ladder = s.ladder := rfl
@[simp] theorem answer_work (tag kind : Byte) (st : Status) (payload : List Byte) (s : State) : (answer tag kind st payload s).work = s.work := rfl
@[simp] theorem answer_entries (tag kind : Byte) (st : Status) (payload : List Byte) (s : State) : (answer tag kind st payload s).entries = s.entries := rfl
@[simp] theorem answer_nextHandle (tag kind : Byte) (st : Status) (payload : List Byte) (s : State) : (answer tag kind st payload s).nextHandle = s.nextHandle := rfl
@[simp] theorem answer_nextCreation (tag kind : Byte) (st : Status) (payload : List Byte) (s : State) : (answer tag kind st payload s).nextCreation = s.nextCreation := rfl
@[simp] theorem answer_notices (tag kind : Byte) (st : Status) (payload : List Byte) (s : State) : (answer tag kind st payload s).notices = s.notices := rfl
@[simp] theorem answer_nextSeq (tag kind : Byte) (st : Status) (payload : List Byte) (s : State) : (answer tag kind st payload s).nextSeq = s.nextSeq := rfl

/-! ### refuse -/

@[simp] theorem refuse_pending (tag kind : Byte) (st : Status) (s : State) : (refuse tag kind st s).pending = s.pending := rfl
@[simp] theorem refuse_resetAsserted (tag kind : Byte) (st : Status) (s : State) : (refuse tag kind st s).resetAsserted = s.resetAsserted := rfl
@[simp] theorem refuse_pres (tag kind : Byte) (st : Status) (s : State) : (refuse tag kind st s).pres = s.pres := rfl
@[simp] theorem refuse_alertN (tag kind : Byte) (st : Status) (s : State) : (refuse tag kind st s).alertN = s.alertN := rfl
@[simp] theorem refuse_rateHigh (tag kind : Byte) (st : Status) (s : State) : (refuse tag kind st s).rateHigh = s.rateHigh := rfl
@[simp] theorem refuse_rx (tag kind : Byte) (st : Status) (s : State) : (refuse tag kind st s).rx = s.rx := rfl
@[simp] theorem refuse_inbox (tag kind : Byte) (st : Status) (s : State) : (refuse tag kind st s).inbox = s.inbox := rfl
@[simp] theorem refuse_sending (tag kind : Byte) (st : Status) (s : State) : (refuse tag kind st s).sending = s.sending := rfl
@[simp] theorem refuse_closing (tag kind : Byte) (st : Status) (s : State) : (refuse tag kind st s).closing = s.closing := rfl
@[simp] theorem refuse_slots (tag kind : Byte) (st : Status) (s : State) : (refuse tag kind st s).slots = s.slots := rfl
@[simp] theorem refuse_bus (tag kind : Byte) (st : Status) (s : State) : (refuse tag kind st s).bus = s.bus := rfl
@[simp] theorem refuse_jobs (tag kind : Byte) (st : Status) (s : State) : (refuse tag kind st s).jobs = s.jobs := rfl
@[simp] theorem refuse_inFlight (tag kind : Byte) (st : Status) (s : State) : (refuse tag kind st s).inFlight = s.inFlight := rfl
@[simp] theorem refuse_lineSpeed (tag kind : Byte) (st : Status) (s : State) : (refuse tag kind st s).lineSpeed = s.lineSpeed := rfl
@[simp] theorem refuse_pulses (tag kind : Byte) (st : Status) (s : State) : (refuse tag kind st s).pulses = s.pulses := rfl
@[simp] theorem refuse_config (tag kind : Byte) (st : Status) (s : State) : (refuse tag kind st s).config = s.config := rfl
@[simp] theorem refuse_target (tag kind : Byte) (st : Status) (s : State) : (refuse tag kind st s).target = s.target := rfl
@[simp] theorem refuse_targetGen (tag kind : Byte) (st : Status) (s : State) : (refuse tag kind st s).targetGen = s.targetGen := rfl
@[simp] theorem refuse_ladder (tag kind : Byte) (st : Status) (s : State) : (refuse tag kind st s).ladder = s.ladder := rfl
@[simp] theorem refuse_work (tag kind : Byte) (st : Status) (s : State) : (refuse tag kind st s).work = s.work := rfl
@[simp] theorem refuse_entries (tag kind : Byte) (st : Status) (s : State) : (refuse tag kind st s).entries = s.entries := rfl
@[simp] theorem refuse_nextHandle (tag kind : Byte) (st : Status) (s : State) : (refuse tag kind st s).nextHandle = s.nextHandle := rfl
@[simp] theorem refuse_nextCreation (tag kind : Byte) (st : Status) (s : State) : (refuse tag kind st s).nextCreation = s.nextCreation := rfl
@[simp] theorem refuse_notices (tag kind : Byte) (st : Status) (s : State) : (refuse tag kind st s).notices = s.notices := rfl
@[simp] theorem refuse_nextSeq (tag kind : Byte) (st : Status) (s : State) : (refuse tag kind st s).nextSeq = s.nextSeq := rfl

/-! ### joinInbox -/

@[simp] theorem joinInbox_pending (tag kind : Byte) (c : Claim) (s : State) : (joinInbox tag kind c s).pending = s.pending := rfl
@[simp] theorem joinInbox_resetAsserted (tag kind : Byte) (c : Claim) (s : State) : (joinInbox tag kind c s).resetAsserted = s.resetAsserted := rfl
@[simp] theorem joinInbox_pres (tag kind : Byte) (c : Claim) (s : State) : (joinInbox tag kind c s).pres = s.pres := rfl
@[simp] theorem joinInbox_alertN (tag kind : Byte) (c : Claim) (s : State) : (joinInbox tag kind c s).alertN = s.alertN := rfl
@[simp] theorem joinInbox_rateHigh (tag kind : Byte) (c : Claim) (s : State) : (joinInbox tag kind c s).rateHigh = s.rateHigh := rfl
@[simp] theorem joinInbox_rx (tag kind : Byte) (c : Claim) (s : State) : (joinInbox tag kind c s).rx = s.rx := rfl
@[simp] theorem joinInbox_tx (tag kind : Byte) (c : Claim) (s : State) : (joinInbox tag kind c s).tx = s.tx := rfl
@[simp] theorem joinInbox_sending (tag kind : Byte) (c : Claim) (s : State) : (joinInbox tag kind c s).sending = s.sending := rfl
@[simp] theorem joinInbox_closing (tag kind : Byte) (c : Claim) (s : State) : (joinInbox tag kind c s).closing = s.closing := rfl
@[simp] theorem joinInbox_slots (tag kind : Byte) (c : Claim) (s : State) : (joinInbox tag kind c s).slots = s.slots := rfl
@[simp] theorem joinInbox_bus (tag kind : Byte) (c : Claim) (s : State) : (joinInbox tag kind c s).bus = s.bus := rfl
@[simp] theorem joinInbox_jobs (tag kind : Byte) (c : Claim) (s : State) : (joinInbox tag kind c s).jobs = s.jobs := rfl
@[simp] theorem joinInbox_inFlight (tag kind : Byte) (c : Claim) (s : State) : (joinInbox tag kind c s).inFlight = s.inFlight := rfl
@[simp] theorem joinInbox_lineSpeed (tag kind : Byte) (c : Claim) (s : State) : (joinInbox tag kind c s).lineSpeed = s.lineSpeed := rfl
@[simp] theorem joinInbox_pulses (tag kind : Byte) (c : Claim) (s : State) : (joinInbox tag kind c s).pulses = s.pulses := rfl
@[simp] theorem joinInbox_config (tag kind : Byte) (c : Claim) (s : State) : (joinInbox tag kind c s).config = s.config := rfl
@[simp] theorem joinInbox_target (tag kind : Byte) (c : Claim) (s : State) : (joinInbox tag kind c s).target = s.target := rfl
@[simp] theorem joinInbox_targetGen (tag kind : Byte) (c : Claim) (s : State) : (joinInbox tag kind c s).targetGen = s.targetGen := rfl
@[simp] theorem joinInbox_ladder (tag kind : Byte) (c : Claim) (s : State) : (joinInbox tag kind c s).ladder = s.ladder := rfl
@[simp] theorem joinInbox_work (tag kind : Byte) (c : Claim) (s : State) : (joinInbox tag kind c s).work = s.work := rfl
@[simp] theorem joinInbox_entries (tag kind : Byte) (c : Claim) (s : State) : (joinInbox tag kind c s).entries = s.entries := rfl
@[simp] theorem joinInbox_nextHandle (tag kind : Byte) (c : Claim) (s : State) : (joinInbox tag kind c s).nextHandle = s.nextHandle := rfl
@[simp] theorem joinInbox_nextCreation (tag kind : Byte) (c : Claim) (s : State) : (joinInbox tag kind c s).nextCreation = s.nextCreation := rfl
@[simp] theorem joinInbox_notices (tag kind : Byte) (c : Claim) (s : State) : (joinInbox tag kind c s).notices = s.notices := rfl
@[simp] theorem joinInbox_nextSeq (tag kind : Byte) (c : Claim) (s : State) : (joinInbox tag kind c s).nextSeq = s.nextSeq := rfl

/-! ### commitSlots -/

@[simp] theorem commitSlots_pending (own : SlotNo → Bool) (v : Eight Slot) (s : State) : (commitSlots own v s).pending = s.pending := rfl
@[simp] theorem commitSlots_resetAsserted (own : SlotNo → Bool) (v : Eight Slot) (s : State) : (commitSlots own v s).resetAsserted = s.resetAsserted := rfl
@[simp] theorem commitSlots_pres (own : SlotNo → Bool) (v : Eight Slot) (s : State) : (commitSlots own v s).pres = s.pres := rfl
@[simp] theorem commitSlots_alertN (own : SlotNo → Bool) (v : Eight Slot) (s : State) : (commitSlots own v s).alertN = s.alertN := rfl
@[simp] theorem commitSlots_rateHigh (own : SlotNo → Bool) (v : Eight Slot) (s : State) : (commitSlots own v s).rateHigh = s.rateHigh := rfl
@[simp] theorem commitSlots_rx (own : SlotNo → Bool) (v : Eight Slot) (s : State) : (commitSlots own v s).rx = s.rx := rfl
@[simp] theorem commitSlots_inbox (own : SlotNo → Bool) (v : Eight Slot) (s : State) : (commitSlots own v s).inbox = s.inbox := rfl
@[simp] theorem commitSlots_tx (own : SlotNo → Bool) (v : Eight Slot) (s : State) : (commitSlots own v s).tx = s.tx := rfl
@[simp] theorem commitSlots_sending (own : SlotNo → Bool) (v : Eight Slot) (s : State) : (commitSlots own v s).sending = s.sending := rfl
@[simp] theorem commitSlots_closing (own : SlotNo → Bool) (v : Eight Slot) (s : State) : (commitSlots own v s).closing = s.closing := rfl
@[simp] theorem commitSlots_bus (own : SlotNo → Bool) (v : Eight Slot) (s : State) : (commitSlots own v s).bus = s.bus := rfl
@[simp] theorem commitSlots_jobs (own : SlotNo → Bool) (v : Eight Slot) (s : State) : (commitSlots own v s).jobs = s.jobs := rfl
@[simp] theorem commitSlots_inFlight (own : SlotNo → Bool) (v : Eight Slot) (s : State) : (commitSlots own v s).inFlight = s.inFlight := rfl
@[simp] theorem commitSlots_lineSpeed (own : SlotNo → Bool) (v : Eight Slot) (s : State) : (commitSlots own v s).lineSpeed = s.lineSpeed := rfl
@[simp] theorem commitSlots_pulses (own : SlotNo → Bool) (v : Eight Slot) (s : State) : (commitSlots own v s).pulses = s.pulses := rfl
@[simp] theorem commitSlots_config (own : SlotNo → Bool) (v : Eight Slot) (s : State) : (commitSlots own v s).config = s.config := rfl
@[simp] theorem commitSlots_target (own : SlotNo → Bool) (v : Eight Slot) (s : State) : (commitSlots own v s).target = s.target := rfl
@[simp] theorem commitSlots_targetGen (own : SlotNo → Bool) (v : Eight Slot) (s : State) : (commitSlots own v s).targetGen = s.targetGen := rfl
@[simp] theorem commitSlots_ladder (own : SlotNo → Bool) (v : Eight Slot) (s : State) : (commitSlots own v s).ladder = s.ladder := rfl
@[simp] theorem commitSlots_work (own : SlotNo → Bool) (v : Eight Slot) (s : State) : (commitSlots own v s).work = s.work := rfl
@[simp] theorem commitSlots_entries (own : SlotNo → Bool) (v : Eight Slot) (s : State) : (commitSlots own v s).entries = s.entries := rfl
@[simp] theorem commitSlots_nextHandle (own : SlotNo → Bool) (v : Eight Slot) (s : State) : (commitSlots own v s).nextHandle = s.nextHandle := rfl
@[simp] theorem commitSlots_nextCreation (own : SlotNo → Bool) (v : Eight Slot) (s : State) : (commitSlots own v s).nextCreation = s.nextCreation := rfl
@[simp] theorem commitSlots_notices (own : SlotNo → Bool) (v : Eight Slot) (s : State) : (commitSlots own v s).notices = s.notices := rfl
@[simp] theorem commitSlots_nextSeq (own : SlotNo → Bool) (v : Eight Slot) (s : State) : (commitSlots own v s).nextSeq = s.nextSeq := rfl

/-! ### samplePresence -/

@[simp] theorem samplePresence_pending (s : State) : (samplePresence s).pending = s.pending := rfl
@[simp] theorem samplePresence_resetAsserted (s : State) : (samplePresence s).resetAsserted = s.resetAsserted := rfl
@[simp] theorem samplePresence_pres (s : State) : (samplePresence s).pres = s.pres := rfl
@[simp] theorem samplePresence_alertN (s : State) : (samplePresence s).alertN = s.alertN := rfl
@[simp] theorem samplePresence_rateHigh (s : State) : (samplePresence s).rateHigh = s.rateHigh := rfl
@[simp] theorem samplePresence_rx (s : State) : (samplePresence s).rx = s.rx := rfl
@[simp] theorem samplePresence_inbox (s : State) : (samplePresence s).inbox = s.inbox := rfl
@[simp] theorem samplePresence_tx (s : State) : (samplePresence s).tx = s.tx := rfl
@[simp] theorem samplePresence_sending (s : State) : (samplePresence s).sending = s.sending := rfl
@[simp] theorem samplePresence_closing (s : State) : (samplePresence s).closing = s.closing := rfl
@[simp] theorem samplePresence_bus (s : State) : (samplePresence s).bus = s.bus := rfl
@[simp] theorem samplePresence_jobs (s : State) : (samplePresence s).jobs = s.jobs := rfl
@[simp] theorem samplePresence_inFlight (s : State) : (samplePresence s).inFlight = s.inFlight := rfl
@[simp] theorem samplePresence_lineSpeed (s : State) : (samplePresence s).lineSpeed = s.lineSpeed := rfl
@[simp] theorem samplePresence_pulses (s : State) : (samplePresence s).pulses = s.pulses := rfl
@[simp] theorem samplePresence_config (s : State) : (samplePresence s).config = s.config := rfl
@[simp] theorem samplePresence_target (s : State) : (samplePresence s).target = s.target := rfl
@[simp] theorem samplePresence_targetGen (s : State) : (samplePresence s).targetGen = s.targetGen := rfl
@[simp] theorem samplePresence_ladder (s : State) : (samplePresence s).ladder = s.ladder := rfl
@[simp] theorem samplePresence_work (s : State) : (samplePresence s).work = s.work := rfl
@[simp] theorem samplePresence_entries (s : State) : (samplePresence s).entries = s.entries := rfl
@[simp] theorem samplePresence_nextHandle (s : State) : (samplePresence s).nextHandle = s.nextHandle := rfl
@[simp] theorem samplePresence_nextCreation (s : State) : (samplePresence s).nextCreation = s.nextCreation := rfl
@[simp] theorem samplePresence_notices (s : State) : (samplePresence s).notices = s.notices := rfl
@[simp] theorem samplePresence_nextSeq (s : State) : (samplePresence s).nextSeq = s.nextSeq := rfl

/-! ### startJob -/

@[simp] theorem startJob_pending (j : Job) (ff : Bool) (s : State) : (startJob j ff s).pending = s.pending := rfl
@[simp] theorem startJob_resetAsserted (j : Job) (ff : Bool) (s : State) : (startJob j ff s).resetAsserted = s.resetAsserted := rfl
@[simp] theorem startJob_pres (j : Job) (ff : Bool) (s : State) : (startJob j ff s).pres = s.pres := rfl
@[simp] theorem startJob_alertN (j : Job) (ff : Bool) (s : State) : (startJob j ff s).alertN = s.alertN := rfl
@[simp] theorem startJob_rateHigh (j : Job) (ff : Bool) (s : State) : (startJob j ff s).rateHigh = s.rateHigh := rfl
@[simp] theorem startJob_rx (j : Job) (ff : Bool) (s : State) : (startJob j ff s).rx = s.rx := rfl
@[simp] theorem startJob_inbox (j : Job) (ff : Bool) (s : State) : (startJob j ff s).inbox = s.inbox := rfl
@[simp] theorem startJob_tx (j : Job) (ff : Bool) (s : State) : (startJob j ff s).tx = s.tx := rfl
@[simp] theorem startJob_sending (j : Job) (ff : Bool) (s : State) : (startJob j ff s).sending = s.sending := rfl
@[simp] theorem startJob_closing (j : Job) (ff : Bool) (s : State) : (startJob j ff s).closing = s.closing := rfl
@[simp] theorem startJob_slots (j : Job) (ff : Bool) (s : State) : (startJob j ff s).slots = s.slots := rfl
@[simp] theorem startJob_jobs (j : Job) (ff : Bool) (s : State) : (startJob j ff s).jobs = s.jobs := rfl
@[simp] theorem startJob_config (j : Job) (ff : Bool) (s : State) : (startJob j ff s).config = s.config := rfl
@[simp] theorem startJob_target (j : Job) (ff : Bool) (s : State) : (startJob j ff s).target = s.target := rfl
@[simp] theorem startJob_targetGen (j : Job) (ff : Bool) (s : State) : (startJob j ff s).targetGen = s.targetGen := rfl
@[simp] theorem startJob_ladder (j : Job) (ff : Bool) (s : State) : (startJob j ff s).ladder = s.ladder := rfl
@[simp] theorem startJob_work (j : Job) (ff : Bool) (s : State) : (startJob j ff s).work = s.work := rfl
@[simp] theorem startJob_entries (j : Job) (ff : Bool) (s : State) : (startJob j ff s).entries = s.entries := rfl
@[simp] theorem startJob_nextHandle (j : Job) (ff : Bool) (s : State) : (startJob j ff s).nextHandle = s.nextHandle := rfl
@[simp] theorem startJob_nextCreation (j : Job) (ff : Bool) (s : State) : (startJob j ff s).nextCreation = s.nextCreation := rfl
@[simp] theorem startJob_notices (j : Job) (ff : Bool) (s : State) : (startJob j ff s).notices = s.notices := rfl
@[simp] theorem startJob_nextSeq (j : Job) (ff : Bool) (s : State) : (startJob j ff s).nextSeq = s.nextSeq := rfl

/-! ### changeCopy -/

@[simp] theorem changeCopy_pending (n : SlotNo) (g : ImageCopy → ImageCopy) (s : State) : (changeCopy n g s).pending = s.pending := rfl
@[simp] theorem changeCopy_resetAsserted (n : SlotNo) (g : ImageCopy → ImageCopy) (s : State) : (changeCopy n g s).resetAsserted = s.resetAsserted := rfl
@[simp] theorem changeCopy_pres (n : SlotNo) (g : ImageCopy → ImageCopy) (s : State) : (changeCopy n g s).pres = s.pres := rfl
@[simp] theorem changeCopy_alertN (n : SlotNo) (g : ImageCopy → ImageCopy) (s : State) : (changeCopy n g s).alertN = s.alertN := rfl
@[simp] theorem changeCopy_rateHigh (n : SlotNo) (g : ImageCopy → ImageCopy) (s : State) : (changeCopy n g s).rateHigh = s.rateHigh := rfl
@[simp] theorem changeCopy_rx (n : SlotNo) (g : ImageCopy → ImageCopy) (s : State) : (changeCopy n g s).rx = s.rx := rfl
@[simp] theorem changeCopy_inbox (n : SlotNo) (g : ImageCopy → ImageCopy) (s : State) : (changeCopy n g s).inbox = s.inbox := rfl
@[simp] theorem changeCopy_tx (n : SlotNo) (g : ImageCopy → ImageCopy) (s : State) : (changeCopy n g s).tx = s.tx := rfl
@[simp] theorem changeCopy_sending (n : SlotNo) (g : ImageCopy → ImageCopy) (s : State) : (changeCopy n g s).sending = s.sending := rfl
@[simp] theorem changeCopy_closing (n : SlotNo) (g : ImageCopy → ImageCopy) (s : State) : (changeCopy n g s).closing = s.closing := rfl
@[simp] theorem changeCopy_bus (n : SlotNo) (g : ImageCopy → ImageCopy) (s : State) : (changeCopy n g s).bus = s.bus := rfl
@[simp] theorem changeCopy_jobs (n : SlotNo) (g : ImageCopy → ImageCopy) (s : State) : (changeCopy n g s).jobs = s.jobs := rfl
@[simp] theorem changeCopy_inFlight (n : SlotNo) (g : ImageCopy → ImageCopy) (s : State) : (changeCopy n g s).inFlight = s.inFlight := rfl
@[simp] theorem changeCopy_lineSpeed (n : SlotNo) (g : ImageCopy → ImageCopy) (s : State) : (changeCopy n g s).lineSpeed = s.lineSpeed := rfl
@[simp] theorem changeCopy_pulses (n : SlotNo) (g : ImageCopy → ImageCopy) (s : State) : (changeCopy n g s).pulses = s.pulses := rfl
@[simp] theorem changeCopy_config (n : SlotNo) (g : ImageCopy → ImageCopy) (s : State) : (changeCopy n g s).config = s.config := rfl
@[simp] theorem changeCopy_target (n : SlotNo) (g : ImageCopy → ImageCopy) (s : State) : (changeCopy n g s).target = s.target := rfl
@[simp] theorem changeCopy_targetGen (n : SlotNo) (g : ImageCopy → ImageCopy) (s : State) : (changeCopy n g s).targetGen = s.targetGen := rfl
@[simp] theorem changeCopy_ladder (n : SlotNo) (g : ImageCopy → ImageCopy) (s : State) : (changeCopy n g s).ladder = s.ladder := rfl
@[simp] theorem changeCopy_work (n : SlotNo) (g : ImageCopy → ImageCopy) (s : State) : (changeCopy n g s).work = s.work := rfl
@[simp] theorem changeCopy_entries (n : SlotNo) (g : ImageCopy → ImageCopy) (s : State) : (changeCopy n g s).entries = s.entries := rfl
@[simp] theorem changeCopy_nextHandle (n : SlotNo) (g : ImageCopy → ImageCopy) (s : State) : (changeCopy n g s).nextHandle = s.nextHandle := rfl
@[simp] theorem changeCopy_nextCreation (n : SlotNo) (g : ImageCopy → ImageCopy) (s : State) : (changeCopy n g s).nextCreation = s.nextCreation := rfl
@[simp] theorem changeCopy_notices (n : SlotNo) (g : ImageCopy → ImageCopy) (s : State) : (changeCopy n g s).notices = s.notices := rfl
@[simp] theorem changeCopy_nextSeq (n : SlotNo) (g : ImageCopy → ImageCopy) (s : State) : (changeCopy n g s).nextSeq = s.nextSeq := rfl

/-! ### setEntry -/

@[simp] theorem setEntry_pending (h : Byte) (e : Entry) (s : State) : (setEntry h e s).pending = s.pending := rfl
@[simp] theorem setEntry_resetAsserted (h : Byte) (e : Entry) (s : State) : (setEntry h e s).resetAsserted = s.resetAsserted := rfl
@[simp] theorem setEntry_pres (h : Byte) (e : Entry) (s : State) : (setEntry h e s).pres = s.pres := rfl
@[simp] theorem setEntry_alertN (h : Byte) (e : Entry) (s : State) : (setEntry h e s).alertN = s.alertN := rfl
@[simp] theorem setEntry_rateHigh (h : Byte) (e : Entry) (s : State) : (setEntry h e s).rateHigh = s.rateHigh := rfl
@[simp] theorem setEntry_rx (h : Byte) (e : Entry) (s : State) : (setEntry h e s).rx = s.rx := rfl
@[simp] theorem setEntry_inbox (h : Byte) (e : Entry) (s : State) : (setEntry h e s).inbox = s.inbox := rfl
@[simp] theorem setEntry_tx (h : Byte) (e : Entry) (s : State) : (setEntry h e s).tx = s.tx := rfl
@[simp] theorem setEntry_sending (h : Byte) (e : Entry) (s : State) : (setEntry h e s).sending = s.sending := rfl
@[simp] theorem setEntry_closing (h : Byte) (e : Entry) (s : State) : (setEntry h e s).closing = s.closing := rfl
@[simp] theorem setEntry_slots (h : Byte) (e : Entry) (s : State) : (setEntry h e s).slots = s.slots := rfl
@[simp] theorem setEntry_bus (h : Byte) (e : Entry) (s : State) : (setEntry h e s).bus = s.bus := rfl
@[simp] theorem setEntry_jobs (h : Byte) (e : Entry) (s : State) : (setEntry h e s).jobs = s.jobs := rfl
@[simp] theorem setEntry_inFlight (h : Byte) (e : Entry) (s : State) : (setEntry h e s).inFlight = s.inFlight := rfl
@[simp] theorem setEntry_lineSpeed (h : Byte) (e : Entry) (s : State) : (setEntry h e s).lineSpeed = s.lineSpeed := rfl
@[simp] theorem setEntry_pulses (h : Byte) (e : Entry) (s : State) : (setEntry h e s).pulses = s.pulses := rfl
@[simp] theorem setEntry_config (h : Byte) (e : Entry) (s : State) : (setEntry h e s).config = s.config := rfl
@[simp] theorem setEntry_target (h : Byte) (e : Entry) (s : State) : (setEntry h e s).target = s.target := rfl
@[simp] theorem setEntry_targetGen (h : Byte) (e : Entry) (s : State) : (setEntry h e s).targetGen = s.targetGen := rfl
@[simp] theorem setEntry_ladder (h : Byte) (e : Entry) (s : State) : (setEntry h e s).ladder = s.ladder := rfl
@[simp] theorem setEntry_work (h : Byte) (e : Entry) (s : State) : (setEntry h e s).work = s.work := rfl
@[simp] theorem setEntry_nextHandle (h : Byte) (e : Entry) (s : State) : (setEntry h e s).nextHandle = s.nextHandle := rfl
@[simp] theorem setEntry_nextCreation (h : Byte) (e : Entry) (s : State) : (setEntry h e s).nextCreation = s.nextCreation := rfl
@[simp] theorem setEntry_notices (h : Byte) (e : Entry) (s : State) : (setEntry h e s).notices = s.notices := rfl
@[simp] theorem setEntry_nextSeq (h : Byte) (e : Entry) (s : State) : (setEntry h e s).nextSeq = s.nextSeq := rfl

/-! ### freeEntry -/

@[simp] theorem freeEntry_pending (h : Byte) (s : State) : (freeEntry h s).pending = s.pending := rfl
@[simp] theorem freeEntry_resetAsserted (h : Byte) (s : State) : (freeEntry h s).resetAsserted = s.resetAsserted := rfl
@[simp] theorem freeEntry_pres (h : Byte) (s : State) : (freeEntry h s).pres = s.pres := rfl
@[simp] theorem freeEntry_alertN (h : Byte) (s : State) : (freeEntry h s).alertN = s.alertN := rfl
@[simp] theorem freeEntry_rateHigh (h : Byte) (s : State) : (freeEntry h s).rateHigh = s.rateHigh := rfl
@[simp] theorem freeEntry_rx (h : Byte) (s : State) : (freeEntry h s).rx = s.rx := rfl
@[simp] theorem freeEntry_inbox (h : Byte) (s : State) : (freeEntry h s).inbox = s.inbox := rfl
@[simp] theorem freeEntry_tx (h : Byte) (s : State) : (freeEntry h s).tx = s.tx := rfl
@[simp] theorem freeEntry_sending (h : Byte) (s : State) : (freeEntry h s).sending = s.sending := rfl
@[simp] theorem freeEntry_closing (h : Byte) (s : State) : (freeEntry h s).closing = s.closing := rfl
@[simp] theorem freeEntry_slots (h : Byte) (s : State) : (freeEntry h s).slots = s.slots := rfl
@[simp] theorem freeEntry_bus (h : Byte) (s : State) : (freeEntry h s).bus = s.bus := rfl
@[simp] theorem freeEntry_jobs (h : Byte) (s : State) : (freeEntry h s).jobs = s.jobs := rfl
@[simp] theorem freeEntry_inFlight (h : Byte) (s : State) : (freeEntry h s).inFlight = s.inFlight := rfl
@[simp] theorem freeEntry_lineSpeed (h : Byte) (s : State) : (freeEntry h s).lineSpeed = s.lineSpeed := rfl
@[simp] theorem freeEntry_pulses (h : Byte) (s : State) : (freeEntry h s).pulses = s.pulses := rfl
@[simp] theorem freeEntry_config (h : Byte) (s : State) : (freeEntry h s).config = s.config := rfl
@[simp] theorem freeEntry_target (h : Byte) (s : State) : (freeEntry h s).target = s.target := rfl
@[simp] theorem freeEntry_targetGen (h : Byte) (s : State) : (freeEntry h s).targetGen = s.targetGen := rfl
@[simp] theorem freeEntry_ladder (h : Byte) (s : State) : (freeEntry h s).ladder = s.ladder := rfl
@[simp] theorem freeEntry_work (h : Byte) (s : State) : (freeEntry h s).work = s.work := rfl
@[simp] theorem freeEntry_nextHandle (h : Byte) (s : State) : (freeEntry h s).nextHandle = s.nextHandle := rfl
@[simp] theorem freeEntry_nextCreation (h : Byte) (s : State) : (freeEntry h s).nextCreation = s.nextCreation := rfl
@[simp] theorem freeEntry_notices (h : Byte) (s : State) : (freeEntry h s).notices = s.notices := rfl
@[simp] theorem freeEntry_nextSeq (h : Byte) (s : State) : (freeEntry h s).nextSeq = s.nextSeq := rfl

/-! ### allocate -/

@[simp] theorem allocate_pending (tag : Byte) (r : ResolveRequest) (s : State) : (allocate tag r s).pending = s.pending := rfl
@[simp] theorem allocate_resetAsserted (tag : Byte) (r : ResolveRequest) (s : State) : (allocate tag r s).resetAsserted = s.resetAsserted := rfl
@[simp] theorem allocate_pres (tag : Byte) (r : ResolveRequest) (s : State) : (allocate tag r s).pres = s.pres := rfl
@[simp] theorem allocate_alertN (tag : Byte) (r : ResolveRequest) (s : State) : (allocate tag r s).alertN = s.alertN := rfl
@[simp] theorem allocate_rateHigh (tag : Byte) (r : ResolveRequest) (s : State) : (allocate tag r s).rateHigh = s.rateHigh := rfl
@[simp] theorem allocate_rx (tag : Byte) (r : ResolveRequest) (s : State) : (allocate tag r s).rx = s.rx := rfl
@[simp] theorem allocate_inbox (tag : Byte) (r : ResolveRequest) (s : State) : (allocate tag r s).inbox = s.inbox := rfl
@[simp] theorem allocate_tx (tag : Byte) (r : ResolveRequest) (s : State) : (allocate tag r s).tx = s.tx := rfl
@[simp] theorem allocate_sending (tag : Byte) (r : ResolveRequest) (s : State) : (allocate tag r s).sending = s.sending := rfl
@[simp] theorem allocate_closing (tag : Byte) (r : ResolveRequest) (s : State) : (allocate tag r s).closing = s.closing := rfl
@[simp] theorem allocate_slots (tag : Byte) (r : ResolveRequest) (s : State) : (allocate tag r s).slots = s.slots := rfl
@[simp] theorem allocate_bus (tag : Byte) (r : ResolveRequest) (s : State) : (allocate tag r s).bus = s.bus := rfl
@[simp] theorem allocate_jobs (tag : Byte) (r : ResolveRequest) (s : State) : (allocate tag r s).jobs = s.jobs := rfl
@[simp] theorem allocate_inFlight (tag : Byte) (r : ResolveRequest) (s : State) : (allocate tag r s).inFlight = s.inFlight := rfl
@[simp] theorem allocate_lineSpeed (tag : Byte) (r : ResolveRequest) (s : State) : (allocate tag r s).lineSpeed = s.lineSpeed := rfl
@[simp] theorem allocate_pulses (tag : Byte) (r : ResolveRequest) (s : State) : (allocate tag r s).pulses = s.pulses := rfl
@[simp] theorem allocate_config (tag : Byte) (r : ResolveRequest) (s : State) : (allocate tag r s).config = s.config := rfl
@[simp] theorem allocate_target (tag : Byte) (r : ResolveRequest) (s : State) : (allocate tag r s).target = s.target := rfl
@[simp] theorem allocate_targetGen (tag : Byte) (r : ResolveRequest) (s : State) : (allocate tag r s).targetGen = s.targetGen := rfl
@[simp] theorem allocate_ladder (tag : Byte) (r : ResolveRequest) (s : State) : (allocate tag r s).ladder = s.ladder := rfl
@[simp] theorem allocate_work (tag : Byte) (r : ResolveRequest) (s : State) : (allocate tag r s).work = s.work := rfl
@[simp] theorem allocate_notices (tag : Byte) (r : ResolveRequest) (s : State) : (allocate tag r s).notices = s.notices := rfl
@[simp] theorem allocate_nextSeq (tag : Byte) (r : ResolveRequest) (s : State) : (allocate tag r s).nextSeq = s.nextSeq := rfl

/-! ### abortAll -/

@[simp] theorem abortAll_pending (s : State) : (abortAll s).pending = s.pending := rfl
@[simp] theorem abortAll_resetAsserted (s : State) : (abortAll s).resetAsserted = s.resetAsserted := rfl
@[simp] theorem abortAll_pres (s : State) : (abortAll s).pres = s.pres := rfl
@[simp] theorem abortAll_alertN (s : State) : (abortAll s).alertN = s.alertN := rfl
@[simp] theorem abortAll_rateHigh (s : State) : (abortAll s).rateHigh = s.rateHigh := rfl
@[simp] theorem abortAll_rx (s : State) : (abortAll s).rx = s.rx := rfl
@[simp] theorem abortAll_sending (s : State) : (abortAll s).sending = s.sending := rfl
@[simp] theorem abortAll_closing (s : State) : (abortAll s).closing = s.closing := rfl
@[simp] theorem abortAll_slots (s : State) : (abortAll s).slots = s.slots := rfl
@[simp] theorem abortAll_bus (s : State) : (abortAll s).bus = s.bus := rfl
@[simp] theorem abortAll_jobs (s : State) : (abortAll s).jobs = s.jobs := rfl
@[simp] theorem abortAll_inFlight (s : State) : (abortAll s).inFlight = s.inFlight := rfl
@[simp] theorem abortAll_lineSpeed (s : State) : (abortAll s).lineSpeed = s.lineSpeed := rfl
@[simp] theorem abortAll_pulses (s : State) : (abortAll s).pulses = s.pulses := rfl
@[simp] theorem abortAll_config (s : State) : (abortAll s).config = s.config := rfl
@[simp] theorem abortAll_target (s : State) : (abortAll s).target = s.target := rfl
@[simp] theorem abortAll_targetGen (s : State) : (abortAll s).targetGen = s.targetGen := rfl
@[simp] theorem abortAll_ladder (s : State) : (abortAll s).ladder = s.ladder := rfl
@[simp] theorem abortAll_work (s : State) : (abortAll s).work = s.work := rfl
@[simp] theorem abortAll_entries (s : State) : (abortAll s).entries = s.entries := rfl
@[simp] theorem abortAll_nextHandle (s : State) : (abortAll s).nextHandle = s.nextHandle := rfl
@[simp] theorem abortAll_nextCreation (s : State) : (abortAll s).nextCreation = s.nextCreation := rfl
@[simp] theorem abortAll_notices (s : State) : (abortAll s).notices = s.notices := rfl
@[simp] theorem abortAll_nextSeq (s : State) : (abortAll s).nextSeq = s.nextSeq := rfl

/-! ### sessionSlots -/

@[simp] theorem sessionSlots_pending (s : State) : (sessionSlots s).pending = s.pending := rfl
@[simp] theorem sessionSlots_resetAsserted (s : State) : (sessionSlots s).resetAsserted = s.resetAsserted := rfl
@[simp] theorem sessionSlots_pres (s : State) : (sessionSlots s).pres = s.pres := rfl
@[simp] theorem sessionSlots_alertN (s : State) : (sessionSlots s).alertN = s.alertN := rfl
@[simp] theorem sessionSlots_rateHigh (s : State) : (sessionSlots s).rateHigh = s.rateHigh := rfl
@[simp] theorem sessionSlots_rx (s : State) : (sessionSlots s).rx = s.rx := rfl
@[simp] theorem sessionSlots_inbox (s : State) : (sessionSlots s).inbox = s.inbox := rfl
@[simp] theorem sessionSlots_tx (s : State) : (sessionSlots s).tx = s.tx := rfl
@[simp] theorem sessionSlots_sending (s : State) : (sessionSlots s).sending = s.sending := rfl
@[simp] theorem sessionSlots_closing (s : State) : (sessionSlots s).closing = s.closing := rfl
@[simp] theorem sessionSlots_bus (s : State) : (sessionSlots s).bus = s.bus := rfl
@[simp] theorem sessionSlots_jobs (s : State) : (sessionSlots s).jobs = s.jobs := rfl
@[simp] theorem sessionSlots_inFlight (s : State) : (sessionSlots s).inFlight = s.inFlight := rfl
@[simp] theorem sessionSlots_lineSpeed (s : State) : (sessionSlots s).lineSpeed = s.lineSpeed := rfl
@[simp] theorem sessionSlots_pulses (s : State) : (sessionSlots s).pulses = s.pulses := rfl
@[simp] theorem sessionSlots_config (s : State) : (sessionSlots s).config = s.config := rfl
@[simp] theorem sessionSlots_target (s : State) : (sessionSlots s).target = s.target := rfl
@[simp] theorem sessionSlots_targetGen (s : State) : (sessionSlots s).targetGen = s.targetGen := rfl
@[simp] theorem sessionSlots_ladder (s : State) : (sessionSlots s).ladder = s.ladder := rfl
@[simp] theorem sessionSlots_work (s : State) : (sessionSlots s).work = s.work := rfl
@[simp] theorem sessionSlots_entries (s : State) : (sessionSlots s).entries = s.entries := rfl
@[simp] theorem sessionSlots_nextHandle (s : State) : (sessionSlots s).nextHandle = s.nextHandle := rfl
@[simp] theorem sessionSlots_nextCreation (s : State) : (sessionSlots s).nextCreation = s.nextCreation := rfl
@[simp] theorem sessionSlots_notices (s : State) : (sessionSlots s).notices = s.notices := rfl
@[simp] theorem sessionSlots_nextSeq (s : State) : (sessionSlots s).nextSeq = s.nextSeq := rfl

/-! ### sessionProfiles -/

@[simp] theorem sessionProfiles_pending (s : State) : (sessionProfiles s).pending = s.pending := rfl
@[simp] theorem sessionProfiles_resetAsserted (s : State) : (sessionProfiles s).resetAsserted = s.resetAsserted := rfl
@[simp] theorem sessionProfiles_pres (s : State) : (sessionProfiles s).pres = s.pres := rfl
@[simp] theorem sessionProfiles_alertN (s : State) : (sessionProfiles s).alertN = s.alertN := rfl
@[simp] theorem sessionProfiles_rateHigh (s : State) : (sessionProfiles s).rateHigh = s.rateHigh := rfl
@[simp] theorem sessionProfiles_rx (s : State) : (sessionProfiles s).rx = s.rx := rfl
@[simp] theorem sessionProfiles_inbox (s : State) : (sessionProfiles s).inbox = s.inbox := rfl
@[simp] theorem sessionProfiles_tx (s : State) : (sessionProfiles s).tx = s.tx := rfl
@[simp] theorem sessionProfiles_sending (s : State) : (sessionProfiles s).sending = s.sending := rfl
@[simp] theorem sessionProfiles_closing (s : State) : (sessionProfiles s).closing = s.closing := rfl
@[simp] theorem sessionProfiles_slots (s : State) : (sessionProfiles s).slots = s.slots := rfl
@[simp] theorem sessionProfiles_bus (s : State) : (sessionProfiles s).bus = s.bus := rfl
@[simp] theorem sessionProfiles_jobs (s : State) : (sessionProfiles s).jobs = s.jobs := rfl
@[simp] theorem sessionProfiles_inFlight (s : State) : (sessionProfiles s).inFlight = s.inFlight := rfl
@[simp] theorem sessionProfiles_lineSpeed (s : State) : (sessionProfiles s).lineSpeed = s.lineSpeed := rfl
@[simp] theorem sessionProfiles_pulses (s : State) : (sessionProfiles s).pulses = s.pulses := rfl
@[simp] theorem sessionProfiles_config (s : State) : (sessionProfiles s).config = s.config := rfl
@[simp] theorem sessionProfiles_target (s : State) : (sessionProfiles s).target = s.target := rfl
@[simp] theorem sessionProfiles_targetGen (s : State) : (sessionProfiles s).targetGen = s.targetGen := rfl
@[simp] theorem sessionProfiles_ladder (s : State) : (sessionProfiles s).ladder = s.ladder := rfl
@[simp] theorem sessionProfiles_notices (s : State) : (sessionProfiles s).notices = s.notices := rfl
@[simp] theorem sessionProfiles_nextSeq (s : State) : (sessionProfiles s).nextSeq = s.nextSeq := rfl

/-! ### sessionNotices -/

@[simp] theorem sessionNotices_pending (s : State) : (sessionNotices s).pending = s.pending := rfl
@[simp] theorem sessionNotices_resetAsserted (s : State) : (sessionNotices s).resetAsserted = s.resetAsserted := rfl
@[simp] theorem sessionNotices_pres (s : State) : (sessionNotices s).pres = s.pres := rfl
@[simp] theorem sessionNotices_rateHigh (s : State) : (sessionNotices s).rateHigh = s.rateHigh := rfl
@[simp] theorem sessionNotices_rx (s : State) : (sessionNotices s).rx = s.rx := rfl
@[simp] theorem sessionNotices_inbox (s : State) : (sessionNotices s).inbox = s.inbox := rfl
@[simp] theorem sessionNotices_tx (s : State) : (sessionNotices s).tx = s.tx := rfl
@[simp] theorem sessionNotices_sending (s : State) : (sessionNotices s).sending = s.sending := rfl
@[simp] theorem sessionNotices_closing (s : State) : (sessionNotices s).closing = s.closing := rfl
@[simp] theorem sessionNotices_slots (s : State) : (sessionNotices s).slots = s.slots := rfl
@[simp] theorem sessionNotices_bus (s : State) : (sessionNotices s).bus = s.bus := rfl
@[simp] theorem sessionNotices_jobs (s : State) : (sessionNotices s).jobs = s.jobs := rfl
@[simp] theorem sessionNotices_inFlight (s : State) : (sessionNotices s).inFlight = s.inFlight := rfl
@[simp] theorem sessionNotices_lineSpeed (s : State) : (sessionNotices s).lineSpeed = s.lineSpeed := rfl
@[simp] theorem sessionNotices_pulses (s : State) : (sessionNotices s).pulses = s.pulses := rfl
@[simp] theorem sessionNotices_config (s : State) : (sessionNotices s).config = s.config := rfl
@[simp] theorem sessionNotices_target (s : State) : (sessionNotices s).target = s.target := rfl
@[simp] theorem sessionNotices_targetGen (s : State) : (sessionNotices s).targetGen = s.targetGen := rfl
@[simp] theorem sessionNotices_ladder (s : State) : (sessionNotices s).ladder = s.ladder := rfl
@[simp] theorem sessionNotices_work (s : State) : (sessionNotices s).work = s.work := rfl
@[simp] theorem sessionNotices_entries (s : State) : (sessionNotices s).entries = s.entries := rfl
@[simp] theorem sessionNotices_nextHandle (s : State) : (sessionNotices s).nextHandle = s.nextHandle := rfl
@[simp] theorem sessionNotices_nextCreation (s : State) : (sessionNotices s).nextCreation = s.nextCreation := rfl
@[simp] theorem sessionNotices_nextSeq (s : State) : (sessionNotices s).nextSeq = s.nextSeq := rfl

/-! ### freeUnfinished -/

@[simp] theorem freeUnfinished_pending (s : State) : (freeUnfinished s).pending = s.pending := rfl
@[simp] theorem freeUnfinished_resetAsserted (s : State) : (freeUnfinished s).resetAsserted = s.resetAsserted := rfl
@[simp] theorem freeUnfinished_pres (s : State) : (freeUnfinished s).pres = s.pres := rfl
@[simp] theorem freeUnfinished_alertN (s : State) : (freeUnfinished s).alertN = s.alertN := rfl
@[simp] theorem freeUnfinished_rateHigh (s : State) : (freeUnfinished s).rateHigh = s.rateHigh := rfl
@[simp] theorem freeUnfinished_rx (s : State) : (freeUnfinished s).rx = s.rx := rfl
@[simp] theorem freeUnfinished_inbox (s : State) : (freeUnfinished s).inbox = s.inbox := rfl
@[simp] theorem freeUnfinished_tx (s : State) : (freeUnfinished s).tx = s.tx := rfl
@[simp] theorem freeUnfinished_sending (s : State) : (freeUnfinished s).sending = s.sending := rfl
@[simp] theorem freeUnfinished_closing (s : State) : (freeUnfinished s).closing = s.closing := rfl
@[simp] theorem freeUnfinished_slots (s : State) : (freeUnfinished s).slots = s.slots := rfl
@[simp] theorem freeUnfinished_bus (s : State) : (freeUnfinished s).bus = s.bus := rfl
@[simp] theorem freeUnfinished_jobs (s : State) : (freeUnfinished s).jobs = s.jobs := rfl
@[simp] theorem freeUnfinished_inFlight (s : State) : (freeUnfinished s).inFlight = s.inFlight := rfl
@[simp] theorem freeUnfinished_lineSpeed (s : State) : (freeUnfinished s).lineSpeed = s.lineSpeed := rfl
@[simp] theorem freeUnfinished_pulses (s : State) : (freeUnfinished s).pulses = s.pulses := rfl
@[simp] theorem freeUnfinished_config (s : State) : (freeUnfinished s).config = s.config := rfl
@[simp] theorem freeUnfinished_target (s : State) : (freeUnfinished s).target = s.target := rfl
@[simp] theorem freeUnfinished_targetGen (s : State) : (freeUnfinished s).targetGen = s.targetGen := rfl
@[simp] theorem freeUnfinished_ladder (s : State) : (freeUnfinished s).ladder = s.ladder := rfl
@[simp] theorem freeUnfinished_nextHandle (s : State) : (freeUnfinished s).nextHandle = s.nextHandle := rfl
@[simp] theorem freeUnfinished_nextCreation (s : State) : (freeUnfinished s).nextCreation = s.nextCreation := rfl
@[simp] theorem freeUnfinished_notices (s : State) : (freeUnfinished s).notices = s.notices := rfl
@[simp] theorem freeUnfinished_nextSeq (s : State) : (freeUnfinished s).nextSeq = s.nextSeq := rfl

/-! ### beginClosing -/

@[simp] theorem beginClosing_pending (s : State) : (beginClosing s).pending = s.pending := rfl
@[simp] theorem beginClosing_resetAsserted (s : State) : (beginClosing s).resetAsserted = s.resetAsserted := rfl
@[simp] theorem beginClosing_pres (s : State) : (beginClosing s).pres = s.pres := rfl
@[simp] theorem beginClosing_alertN (s : State) : (beginClosing s).alertN = s.alertN := rfl
@[simp] theorem beginClosing_rateHigh (s : State) : (beginClosing s).rateHigh = s.rateHigh := rfl
@[simp] theorem beginClosing_inbox (s : State) : (beginClosing s).inbox = s.inbox := rfl
@[simp] theorem beginClosing_tx (s : State) : (beginClosing s).tx = s.tx := rfl
@[simp] theorem beginClosing_sending (s : State) : (beginClosing s).sending = s.sending := rfl
@[simp] theorem beginClosing_slots (s : State) : (beginClosing s).slots = s.slots := rfl
@[simp] theorem beginClosing_bus (s : State) : (beginClosing s).bus = s.bus := rfl
@[simp] theorem beginClosing_jobs (s : State) : (beginClosing s).jobs = s.jobs := rfl
@[simp] theorem beginClosing_inFlight (s : State) : (beginClosing s).inFlight = s.inFlight := rfl
@[simp] theorem beginClosing_lineSpeed (s : State) : (beginClosing s).lineSpeed = s.lineSpeed := rfl
@[simp] theorem beginClosing_pulses (s : State) : (beginClosing s).pulses = s.pulses := rfl
@[simp] theorem beginClosing_config (s : State) : (beginClosing s).config = s.config := rfl
@[simp] theorem beginClosing_target (s : State) : (beginClosing s).target = s.target := rfl
@[simp] theorem beginClosing_targetGen (s : State) : (beginClosing s).targetGen = s.targetGen := rfl
@[simp] theorem beginClosing_ladder (s : State) : (beginClosing s).ladder = s.ladder := rfl
@[simp] theorem beginClosing_work (s : State) : (beginClosing s).work = s.work := rfl
@[simp] theorem beginClosing_entries (s : State) : (beginClosing s).entries = s.entries := rfl
@[simp] theorem beginClosing_nextHandle (s : State) : (beginClosing s).nextHandle = s.nextHandle := rfl
@[simp] theorem beginClosing_nextCreation (s : State) : (beginClosing s).nextCreation = s.nextCreation := rfl
@[simp] theorem beginClosing_notices (s : State) : (beginClosing s).notices = s.notices := rfl
@[simp] theorem beginClosing_nextSeq (s : State) : (beginClosing s).nextSeq = s.nextSeq := rfl

end Sys2Proof.Machine
end

