-- ==== Sys2Proof/Laws/Frames.lean ====
section
/-! SUPPORT. What each shared operation with cases leaves as it was: one frame equation for an operation, and a lemma for a field. -/

namespace Sys2Proof.Machine

/-! ### intake -/

/-- `intake` changes no field but these. -/
theorem intake_frame (b : NoticeBody) (s : State) :
    intake b s = { s with notices := (intake b s).notices, nextSeq := (intake b s).nextSeq } := by unfold intake appendNotice; split <;> [rfl; (split <;> rfl)]

@[simp] theorem intake_pending (b : NoticeBody) (s : State) : (intake b s).pending = s.pending := by rw [intake_frame]
@[simp] theorem intake_resetAsserted (b : NoticeBody) (s : State) : (intake b s).resetAsserted = s.resetAsserted := by rw [intake_frame]
@[simp] theorem intake_pres (b : NoticeBody) (s : State) : (intake b s).pres = s.pres := by rw [intake_frame]
@[simp] theorem intake_alertN (b : NoticeBody) (s : State) : (intake b s).alertN = s.alertN := by rw [intake_frame]
@[simp] theorem intake_rateHigh (b : NoticeBody) (s : State) : (intake b s).rateHigh = s.rateHigh := by rw [intake_frame]
@[simp] theorem intake_rx (b : NoticeBody) (s : State) : (intake b s).rx = s.rx := by rw [intake_frame]
@[simp] theorem intake_inbox (b : NoticeBody) (s : State) : (intake b s).inbox = s.inbox := by rw [intake_frame]
@[simp] theorem intake_tx (b : NoticeBody) (s : State) : (intake b s).tx = s.tx := by rw [intake_frame]
@[simp] theorem intake_sending (b : NoticeBody) (s : State) : (intake b s).sending = s.sending := by rw [intake_frame]
@[simp] theorem intake_closing (b : NoticeBody) (s : State) : (intake b s).closing = s.closing := by rw [intake_frame]
@[simp] theorem intake_slots (b : NoticeBody) (s : State) : (intake b s).slots = s.slots := by rw [intake_frame]
@[simp] theorem intake_bus (b : NoticeBody) (s : State) : (intake b s).bus = s.bus := by rw [intake_frame]
@[simp] theorem intake_jobs (b : NoticeBody) (s : State) : (intake b s).jobs = s.jobs := by rw [intake_frame]
@[simp] theorem intake_inFlight (b : NoticeBody) (s : State) : (intake b s).inFlight = s.inFlight := by rw [intake_frame]
@[simp] theorem intake_lineSpeed (b : NoticeBody) (s : State) : (intake b s).lineSpeed = s.lineSpeed := by rw [intake_frame]
@[simp] theorem intake_pulses (b : NoticeBody) (s : State) : (intake b s).pulses = s.pulses := by rw [intake_frame]
@[simp] theorem intake_config (b : NoticeBody) (s : State) : (intake b s).config = s.config := by rw [intake_frame]
@[simp] theorem intake_target (b : NoticeBody) (s : State) : (intake b s).target = s.target := by rw [intake_frame]
@[simp] theorem intake_targetGen (b : NoticeBody) (s : State) : (intake b s).targetGen = s.targetGen := by rw [intake_frame]
@[simp] theorem intake_ladder (b : NoticeBody) (s : State) : (intake b s).ladder = s.ladder := by rw [intake_frame]
@[simp] theorem intake_work (b : NoticeBody) (s : State) : (intake b s).work = s.work := by rw [intake_frame]
@[simp] theorem intake_entries (b : NoticeBody) (s : State) : (intake b s).entries = s.entries := by rw [intake_frame]
@[simp] theorem intake_nextHandle (b : NoticeBody) (s : State) : (intake b s).nextHandle = s.nextHandle := by rw [intake_frame]
@[simp] theorem intake_nextCreation (b : NoticeBody) (s : State) : (intake b s).nextCreation = s.nextCreation := by rw [intake_frame]

/-! ### raise -/

/-- `raise` changes no field but these. -/
theorem raise_frame (b : NoticeBody) (s : State) :
    raise b s = { s with notices := (raise b s).notices, nextSeq := (raise b s).nextSeq, alertN := (raise b s).alertN } := by unfold raise updateAlert; rw [intake_frame]

@[simp] theorem raise_pending (b : NoticeBody) (s : State) : (raise b s).pending = s.pending := by rw [raise_frame]
@[simp] theorem raise_resetAsserted (b : NoticeBody) (s : State) : (raise b s).resetAsserted = s.resetAsserted := by rw [raise_frame]
@[simp] theorem raise_pres (b : NoticeBody) (s : State) : (raise b s).pres = s.pres := by rw [raise_frame]
@[simp] theorem raise_rateHigh (b : NoticeBody) (s : State) : (raise b s).rateHigh = s.rateHigh := by rw [raise_frame]
@[simp] theorem raise_rx (b : NoticeBody) (s : State) : (raise b s).rx = s.rx := by rw [raise_frame]
@[simp] theorem raise_inbox (b : NoticeBody) (s : State) : (raise b s).inbox = s.inbox := by rw [raise_frame]
@[simp] theorem raise_tx (b : NoticeBody) (s : State) : (raise b s).tx = s.tx := by rw [raise_frame]
@[simp] theorem raise_sending (b : NoticeBody) (s : State) : (raise b s).sending = s.sending := by rw [raise_frame]
@[simp] theorem raise_closing (b : NoticeBody) (s : State) : (raise b s).closing = s.closing := by rw [raise_frame]
@[simp] theorem raise_slots (b : NoticeBody) (s : State) : (raise b s).slots = s.slots := by rw [raise_frame]
@[simp] theorem raise_bus (b : NoticeBody) (s : State) : (raise b s).bus = s.bus := by rw [raise_frame]
@[simp] theorem raise_jobs (b : NoticeBody) (s : State) : (raise b s).jobs = s.jobs := by rw [raise_frame]
@[simp] theorem raise_inFlight (b : NoticeBody) (s : State) : (raise b s).inFlight = s.inFlight := by rw [raise_frame]
@[simp] theorem raise_lineSpeed (b : NoticeBody) (s : State) : (raise b s).lineSpeed = s.lineSpeed := by rw [raise_frame]
@[simp] theorem raise_pulses (b : NoticeBody) (s : State) : (raise b s).pulses = s.pulses := by rw [raise_frame]
@[simp] theorem raise_config (b : NoticeBody) (s : State) : (raise b s).config = s.config := by rw [raise_frame]
@[simp] theorem raise_target (b : NoticeBody) (s : State) : (raise b s).target = s.target := by rw [raise_frame]
@[simp] theorem raise_targetGen (b : NoticeBody) (s : State) : (raise b s).targetGen = s.targetGen := by rw [raise_frame]
@[simp] theorem raise_ladder (b : NoticeBody) (s : State) : (raise b s).ladder = s.ladder := by rw [raise_frame]
@[simp] theorem raise_work (b : NoticeBody) (s : State) : (raise b s).work = s.work := by rw [raise_frame]
@[simp] theorem raise_entries (b : NoticeBody) (s : State) : (raise b s).entries = s.entries := by rw [raise_frame]
@[simp] theorem raise_nextHandle (b : NoticeBody) (s : State) : (raise b s).nextHandle = s.nextHandle := by rw [raise_frame]
@[simp] theorem raise_nextCreation (b : NoticeBody) (s : State) : (raise b s).nextCreation = s.nextCreation := by rw [raise_frame]

/-! ### raiseAll -/

/-- `raiseAll` changes no field but these. -/
theorem raiseAll_frame (bs : List NoticeBody) (s : State) :
    raiseAll bs s = { s with notices := (raiseAll bs s).notices, nextSeq := (raiseAll bs s).nextSeq, alertN := (raiseAll bs s).alertN } := by
  induction bs generalizing s with
  | nil => rfl
  | cons b bs ih => 
    have h : raiseAll (b :: bs) s = raiseAll bs (raise b s) := rfl
    rw [h, ih (raise b s), raise_frame]

@[simp] theorem raiseAll_pending (bs : List NoticeBody) (s : State) : (raiseAll bs s).pending = s.pending := by rw [raiseAll_frame]
@[simp] theorem raiseAll_resetAsserted (bs : List NoticeBody) (s : State) : (raiseAll bs s).resetAsserted = s.resetAsserted := by rw [raiseAll_frame]
@[simp] theorem raiseAll_pres (bs : List NoticeBody) (s : State) : (raiseAll bs s).pres = s.pres := by rw [raiseAll_frame]
@[simp] theorem raiseAll_rateHigh (bs : List NoticeBody) (s : State) : (raiseAll bs s).rateHigh = s.rateHigh := by rw [raiseAll_frame]
@[simp] theorem raiseAll_rx (bs : List NoticeBody) (s : State) : (raiseAll bs s).rx = s.rx := by rw [raiseAll_frame]
@[simp] theorem raiseAll_inbox (bs : List NoticeBody) (s : State) : (raiseAll bs s).inbox = s.inbox := by rw [raiseAll_frame]
@[simp] theorem raiseAll_tx (bs : List NoticeBody) (s : State) : (raiseAll bs s).tx = s.tx := by rw [raiseAll_frame]
@[simp] theorem raiseAll_sending (bs : List NoticeBody) (s : State) : (raiseAll bs s).sending = s.sending := by rw [raiseAll_frame]
@[simp] theorem raiseAll_closing (bs : List NoticeBody) (s : State) : (raiseAll bs s).closing = s.closing := by rw [raiseAll_frame]
@[simp] theorem raiseAll_slots (bs : List NoticeBody) (s : State) : (raiseAll bs s).slots = s.slots := by rw [raiseAll_frame]
@[simp] theorem raiseAll_bus (bs : List NoticeBody) (s : State) : (raiseAll bs s).bus = s.bus := by rw [raiseAll_frame]
@[simp] theorem raiseAll_jobs (bs : List NoticeBody) (s : State) : (raiseAll bs s).jobs = s.jobs := by rw [raiseAll_frame]
@[simp] theorem raiseAll_inFlight (bs : List NoticeBody) (s : State) : (raiseAll bs s).inFlight = s.inFlight := by rw [raiseAll_frame]
@[simp] theorem raiseAll_lineSpeed (bs : List NoticeBody) (s : State) : (raiseAll bs s).lineSpeed = s.lineSpeed := by rw [raiseAll_frame]
@[simp] theorem raiseAll_pulses (bs : List NoticeBody) (s : State) : (raiseAll bs s).pulses = s.pulses := by rw [raiseAll_frame]
@[simp] theorem raiseAll_config (bs : List NoticeBody) (s : State) : (raiseAll bs s).config = s.config := by rw [raiseAll_frame]
@[simp] theorem raiseAll_target (bs : List NoticeBody) (s : State) : (raiseAll bs s).target = s.target := by rw [raiseAll_frame]
@[simp] theorem raiseAll_targetGen (bs : List NoticeBody) (s : State) : (raiseAll bs s).targetGen = s.targetGen := by rw [raiseAll_frame]
@[simp] theorem raiseAll_ladder (bs : List NoticeBody) (s : State) : (raiseAll bs s).ladder = s.ladder := by rw [raiseAll_frame]
@[simp] theorem raiseAll_work (bs : List NoticeBody) (s : State) : (raiseAll bs s).work = s.work := by rw [raiseAll_frame]
@[simp] theorem raiseAll_entries (bs : List NoticeBody) (s : State) : (raiseAll bs s).entries = s.entries := by rw [raiseAll_frame]
@[simp] theorem raiseAll_nextHandle (bs : List NoticeBody) (s : State) : (raiseAll bs s).nextHandle = s.nextHandle := by rw [raiseAll_frame]
@[simp] theorem raiseAll_nextCreation (bs : List NoticeBody) (s : State) : (raiseAll bs s).nextCreation = s.nextCreation := by rw [raiseAll_frame]

/-! ### endRequest -/

/-- `endRequest` changes no field but these. -/
theorem endRequest_frame (st : Status) (payload : List Byte) (tag : Byte) (s : State) :
    endRequest st payload tag s = { s with tx := (endRequest st payload tag s).tx, inbox := (endRequest st payload tag s).inbox } := by unfold endRequest place; split <;> rfl

@[simp] theorem endRequest_pending (st : Status) (payload : List Byte) (tag : Byte) (s : State) : (endRequest st payload tag s).pending = s.pending := by rw [endRequest_frame]
@[simp] theorem endRequest_resetAsserted (st : Status) (payload : List Byte) (tag : Byte) (s : State) : (endRequest st payload tag s).resetAsserted = s.resetAsserted := by rw [endRequest_frame]
@[simp] theorem endRequest_pres (st : Status) (payload : List Byte) (tag : Byte) (s : State) : (endRequest st payload tag s).pres = s.pres := by rw [endRequest_frame]
@[simp] theorem endRequest_alertN (st : Status) (payload : List Byte) (tag : Byte) (s : State) : (endRequest st payload tag s).alertN = s.alertN := by rw [endRequest_frame]
@[simp] theorem endRequest_rateHigh (st : Status) (payload : List Byte) (tag : Byte) (s : State) : (endRequest st payload tag s).rateHigh = s.rateHigh := by rw [endRequest_frame]
@[simp] theorem endRequest_rx (st : Status) (payload : List Byte) (tag : Byte) (s : State) : (endRequest st payload tag s).rx = s.rx := by rw [endRequest_frame]
@[simp] theorem endRequest_sending (st : Status) (payload : List Byte) (tag : Byte) (s : State) : (endRequest st payload tag s).sending = s.sending := by rw [endRequest_frame]
@[simp] theorem endRequest_closing (st : Status) (payload : List Byte) (tag : Byte) (s : State) : (endRequest st payload tag s).closing = s.closing := by rw [endRequest_frame]
@[simp] theorem endRequest_slots (st : Status) (payload : List Byte) (tag : Byte) (s : State) : (endRequest st payload tag s).slots = s.slots := by rw [endRequest_frame]
@[simp] theorem endRequest_bus (st : Status) (payload : List Byte) (tag : Byte) (s : State) : (endRequest st payload tag s).bus = s.bus := by rw [endRequest_frame]
@[simp] theorem endRequest_jobs (st : Status) (payload : List Byte) (tag : Byte) (s : State) : (endRequest st payload tag s).jobs = s.jobs := by rw [endRequest_frame]
@[simp] theorem endRequest_inFlight (st : Status) (payload : List Byte) (tag : Byte) (s : State) : (endRequest st payload tag s).inFlight = s.inFlight := by rw [endRequest_frame]
@[simp] theorem endRequest_lineSpeed (st : Status) (payload : List Byte) (tag : Byte) (s : State) : (endRequest st payload tag s).lineSpeed = s.lineSpeed := by rw [endRequest_frame]
@[simp] theorem endRequest_pulses (st : Status) (payload : List Byte) (tag : Byte) (s : State) : (endRequest st payload tag s).pulses = s.pulses := by rw [endRequest_frame]
@[simp] theorem endRequest_config (st : Status) (payload : List Byte) (tag : Byte) (s : State) : (endRequest st payload tag s).config = s.config := by rw [endRequest_frame]
@[simp] theorem endRequest_target (st : Status) (payload : List Byte) (tag : Byte) (s : State) : (endRequest st payload tag s).target = s.target := by rw [endRequest_frame]
@[simp] theorem endRequest_targetGen (st : Status) (payload : List Byte) (tag : Byte) (s : State) : (endRequest st payload tag s).targetGen = s.targetGen := by rw [endRequest_frame]
@[simp] theorem endRequest_ladder (st : Status) (payload : List Byte) (tag : Byte) (s : State) : (endRequest st payload tag s).ladder = s.ladder := by rw [endRequest_frame]
@[simp] theorem endRequest_work (st : Status) (payload : List Byte) (tag : Byte) (s : State) : (endRequest st payload tag s).work = s.work := by rw [endRequest_frame]
@[simp] theorem endRequest_entries (st : Status) (payload : List Byte) (tag : Byte) (s : State) : (endRequest st payload tag s).entries = s.entries := by rw [endRequest_frame]
@[simp] theorem endRequest_nextHandle (st : Status) (payload : List Byte) (tag : Byte) (s : State) : (endRequest st payload tag s).nextHandle = s.nextHandle := by rw [endRequest_frame]
@[simp] theorem endRequest_nextCreation (st : Status) (payload : List Byte) (tag : Byte) (s : State) : (endRequest st payload tag s).nextCreation = s.nextCreation := by rw [endRequest_frame]
@[simp] theorem endRequest_notices (st : Status) (payload : List Byte) (tag : Byte) (s : State) : (endRequest st payload tag s).notices = s.notices := by rw [endRequest_frame]
@[simp] theorem endRequest_nextSeq (st : Status) (payload : List Byte) (tag : Byte) (s : State) : (endRequest st payload tag s).nextSeq = s.nextSeq := by rw [endRequest_frame]

/-! ### endTags -/

/-- `endTags` changes no field but these. -/
theorem endTags_frame (st : Status) (payload : List Byte) (tags : List Byte) (s : State) :
    endTags st payload tags s = { s with tx := (endTags st payload tags s).tx, inbox := (endTags st payload tags s).inbox } := by
  induction tags generalizing s with
  | nil => rfl
  | cons t ts ih => 
    have h : endTags st payload (t :: ts) s = endTags st payload ts (endRequest st payload t s) := rfl
    rw [h, ih (endRequest st payload t s), endRequest_frame]

@[simp] theorem endTags_pending (st : Status) (payload : List Byte) (tags : List Byte) (s : State) : (endTags st payload tags s).pending = s.pending := by rw [endTags_frame]
@[simp] theorem endTags_resetAsserted (st : Status) (payload : List Byte) (tags : List Byte) (s : State) : (endTags st payload tags s).resetAsserted = s.resetAsserted := by rw [endTags_frame]
@[simp] theorem endTags_pres (st : Status) (payload : List Byte) (tags : List Byte) (s : State) : (endTags st payload tags s).pres = s.pres := by rw [endTags_frame]
@[simp] theorem endTags_alertN (st : Status) (payload : List Byte) (tags : List Byte) (s : State) : (endTags st payload tags s).alertN = s.alertN := by rw [endTags_frame]
@[simp] theorem endTags_rateHigh (st : Status) (payload : List Byte) (tags : List Byte) (s : State) : (endTags st payload tags s).rateHigh = s.rateHigh := by rw [endTags_frame]
@[simp] theorem endTags_rx (st : Status) (payload : List Byte) (tags : List Byte) (s : State) : (endTags st payload tags s).rx = s.rx := by rw [endTags_frame]
@[simp] theorem endTags_sending (st : Status) (payload : List Byte) (tags : List Byte) (s : State) : (endTags st payload tags s).sending = s.sending := by rw [endTags_frame]
@[simp] theorem endTags_closing (st : Status) (payload : List Byte) (tags : List Byte) (s : State) : (endTags st payload tags s).closing = s.closing := by rw [endTags_frame]
@[simp] theorem endTags_slots (st : Status) (payload : List Byte) (tags : List Byte) (s : State) : (endTags st payload tags s).slots = s.slots := by rw [endTags_frame]
@[simp] theorem endTags_bus (st : Status) (payload : List Byte) (tags : List Byte) (s : State) : (endTags st payload tags s).bus = s.bus := by rw [endTags_frame]
@[simp] theorem endTags_jobs (st : Status) (payload : List Byte) (tags : List Byte) (s : State) : (endTags st payload tags s).jobs = s.jobs := by rw [endTags_frame]
@[simp] theorem endTags_inFlight (st : Status) (payload : List Byte) (tags : List Byte) (s : State) : (endTags st payload tags s).inFlight = s.inFlight := by rw [endTags_frame]
@[simp] theorem endTags_lineSpeed (st : Status) (payload : List Byte) (tags : List Byte) (s : State) : (endTags st payload tags s).lineSpeed = s.lineSpeed := by rw [endTags_frame]
@[simp] theorem endTags_pulses (st : Status) (payload : List Byte) (tags : List Byte) (s : State) : (endTags st payload tags s).pulses = s.pulses := by rw [endTags_frame]
@[simp] theorem endTags_config (st : Status) (payload : List Byte) (tags : List Byte) (s : State) : (endTags st payload tags s).config = s.config := by rw [endTags_frame]
@[simp] theorem endTags_target (st : Status) (payload : List Byte) (tags : List Byte) (s : State) : (endTags st payload tags s).target = s.target := by rw [endTags_frame]
@[simp] theorem endTags_targetGen (st : Status) (payload : List Byte) (tags : List Byte) (s : State) : (endTags st payload tags s).targetGen = s.targetGen := by rw [endTags_frame]
@[simp] theorem endTags_ladder (st : Status) (payload : List Byte) (tags : List Byte) (s : State) : (endTags st payload tags s).ladder = s.ladder := by rw [endTags_frame]
@[simp] theorem endTags_work (st : Status) (payload : List Byte) (tags : List Byte) (s : State) : (endTags st payload tags s).work = s.work := by rw [endTags_frame]
@[simp] theorem endTags_entries (st : Status) (payload : List Byte) (tags : List Byte) (s : State) : (endTags st payload tags s).entries = s.entries := by rw [endTags_frame]
@[simp] theorem endTags_nextHandle (st : Status) (payload : List Byte) (tags : List Byte) (s : State) : (endTags st payload tags s).nextHandle = s.nextHandle := by rw [endTags_frame]
@[simp] theorem endTags_nextCreation (st : Status) (payload : List Byte) (tags : List Byte) (s : State) : (endTags st payload tags s).nextCreation = s.nextCreation := by rw [endTags_frame]
@[simp] theorem endTags_notices (st : Status) (payload : List Byte) (tags : List Byte) (s : State) : (endTags st payload tags s).notices = s.notices := by rw [endTags_frame]
@[simp] theorem endTags_nextSeq (st : Status) (payload : List Byte) (tags : List Byte) (s : State) : (endTags st payload tags s).nextSeq = s.nextSeq := by rw [endTags_frame]

/-! ### staleSlots -/

/-- `staleSlots` changes no field but these. -/
theorem staleSlots_frame (hit : SlotNo → Bool) (s : State) :
    staleSlots hit s = { s with entries := (staleSlots hit s).entries, notices := (staleSlots hit s).notices, nextSeq := (staleSlots hit s).nextSeq, alertN := (staleSlots hit s).alertN } := by unfold staleSlots; rw [raiseAll_frame]

@[simp] theorem staleSlots_pending (hit : SlotNo → Bool) (s : State) : (staleSlots hit s).pending = s.pending := by rw [staleSlots_frame]
@[simp] theorem staleSlots_resetAsserted (hit : SlotNo → Bool) (s : State) : (staleSlots hit s).resetAsserted = s.resetAsserted := by rw [staleSlots_frame]
@[simp] theorem staleSlots_pres (hit : SlotNo → Bool) (s : State) : (staleSlots hit s).pres = s.pres := by rw [staleSlots_frame]
@[simp] theorem staleSlots_rateHigh (hit : SlotNo → Bool) (s : State) : (staleSlots hit s).rateHigh = s.rateHigh := by rw [staleSlots_frame]
@[simp] theorem staleSlots_rx (hit : SlotNo → Bool) (s : State) : (staleSlots hit s).rx = s.rx := by rw [staleSlots_frame]
@[simp] theorem staleSlots_inbox (hit : SlotNo → Bool) (s : State) : (staleSlots hit s).inbox = s.inbox := by rw [staleSlots_frame]
@[simp] theorem staleSlots_tx (hit : SlotNo → Bool) (s : State) : (staleSlots hit s).tx = s.tx := by rw [staleSlots_frame]
@[simp] theorem staleSlots_sending (hit : SlotNo → Bool) (s : State) : (staleSlots hit s).sending = s.sending := by rw [staleSlots_frame]
@[simp] theorem staleSlots_closing (hit : SlotNo → Bool) (s : State) : (staleSlots hit s).closing = s.closing := by rw [staleSlots_frame]
@[simp] theorem staleSlots_slots (hit : SlotNo → Bool) (s : State) : (staleSlots hit s).slots = s.slots := by rw [staleSlots_frame]
@[simp] theorem staleSlots_bus (hit : SlotNo → Bool) (s : State) : (staleSlots hit s).bus = s.bus := by rw [staleSlots_frame]
@[simp] theorem staleSlots_jobs (hit : SlotNo → Bool) (s : State) : (staleSlots hit s).jobs = s.jobs := by rw [staleSlots_frame]
@[simp] theorem staleSlots_inFlight (hit : SlotNo → Bool) (s : State) : (staleSlots hit s).inFlight = s.inFlight := by rw [staleSlots_frame]
@[simp] theorem staleSlots_lineSpeed (hit : SlotNo → Bool) (s : State) : (staleSlots hit s).lineSpeed = s.lineSpeed := by rw [staleSlots_frame]
@[simp] theorem staleSlots_pulses (hit : SlotNo → Bool) (s : State) : (staleSlots hit s).pulses = s.pulses := by rw [staleSlots_frame]
@[simp] theorem staleSlots_config (hit : SlotNo → Bool) (s : State) : (staleSlots hit s).config = s.config := by rw [staleSlots_frame]
@[simp] theorem staleSlots_target (hit : SlotNo → Bool) (s : State) : (staleSlots hit s).target = s.target := by rw [staleSlots_frame]
@[simp] theorem staleSlots_targetGen (hit : SlotNo → Bool) (s : State) : (staleSlots hit s).targetGen = s.targetGen := by rw [staleSlots_frame]
@[simp] theorem staleSlots_ladder (hit : SlotNo → Bool) (s : State) : (staleSlots hit s).ladder = s.ladder := by rw [staleSlots_frame]
@[simp] theorem staleSlots_work (hit : SlotNo → Bool) (s : State) : (staleSlots hit s).work = s.work := by rw [staleSlots_frame]
@[simp] theorem staleSlots_nextHandle (hit : SlotNo → Bool) (s : State) : (staleSlots hit s).nextHandle = s.nextHandle := by rw [staleSlots_frame]
@[simp] theorem staleSlots_nextCreation (hit : SlotNo → Bool) (s : State) : (staleSlots hit s).nextCreation = s.nextCreation := by rw [staleSlots_frame]

/-! ### staleAll -/

/-- `staleAll` changes no field but these. -/
theorem staleAll_frame (s : State) :
    staleAll s = { s with entries := (staleAll s).entries, notices := (staleAll s).notices, nextSeq := (staleAll s).nextSeq, alertN := (staleAll s).alertN } := by unfold staleAll; rw [raiseAll_frame]

@[simp] theorem staleAll_pending (s : State) : (staleAll s).pending = s.pending := by rw [staleAll_frame]
@[simp] theorem staleAll_resetAsserted (s : State) : (staleAll s).resetAsserted = s.resetAsserted := by rw [staleAll_frame]
@[simp] theorem staleAll_pres (s : State) : (staleAll s).pres = s.pres := by rw [staleAll_frame]
@[simp] theorem staleAll_rateHigh (s : State) : (staleAll s).rateHigh = s.rateHigh := by rw [staleAll_frame]
@[simp] theorem staleAll_rx (s : State) : (staleAll s).rx = s.rx := by rw [staleAll_frame]
@[simp] theorem staleAll_inbox (s : State) : (staleAll s).inbox = s.inbox := by rw [staleAll_frame]
@[simp] theorem staleAll_tx (s : State) : (staleAll s).tx = s.tx := by rw [staleAll_frame]
@[simp] theorem staleAll_sending (s : State) : (staleAll s).sending = s.sending := by rw [staleAll_frame]
@[simp] theorem staleAll_closing (s : State) : (staleAll s).closing = s.closing := by rw [staleAll_frame]
@[simp] theorem staleAll_slots (s : State) : (staleAll s).slots = s.slots := by rw [staleAll_frame]
@[simp] theorem staleAll_bus (s : State) : (staleAll s).bus = s.bus := by rw [staleAll_frame]
@[simp] theorem staleAll_jobs (s : State) : (staleAll s).jobs = s.jobs := by rw [staleAll_frame]
@[simp] theorem staleAll_inFlight (s : State) : (staleAll s).inFlight = s.inFlight := by rw [staleAll_frame]
@[simp] theorem staleAll_lineSpeed (s : State) : (staleAll s).lineSpeed = s.lineSpeed := by rw [staleAll_frame]
@[simp] theorem staleAll_pulses (s : State) : (staleAll s).pulses = s.pulses := by rw [staleAll_frame]
@[simp] theorem staleAll_config (s : State) : (staleAll s).config = s.config := by rw [staleAll_frame]
@[simp] theorem staleAll_target (s : State) : (staleAll s).target = s.target := by rw [staleAll_frame]
@[simp] theorem staleAll_targetGen (s : State) : (staleAll s).targetGen = s.targetGen := by rw [staleAll_frame]
@[simp] theorem staleAll_ladder (s : State) : (staleAll s).ladder = s.ladder := by rw [staleAll_frame]
@[simp] theorem staleAll_work (s : State) : (staleAll s).work = s.work := by rw [staleAll_frame]
@[simp] theorem staleAll_nextHandle (s : State) : (staleAll s).nextHandle = s.nextHandle := by rw [staleAll_frame]
@[simp] theorem staleAll_nextCreation (s : State) : (staleAll s).nextCreation = s.nextCreation := by rw [staleAll_frame]

/-! ### slotEvent -/

/-- `slotEvent` changes no field but these. -/
theorem slotEvent_frame (own : SlotNo → Bool) (v : Eight Slot) (bs : List NoticeBody) (s : State) :
    slotEvent own v bs s = { s with slots := (slotEvent own v bs s).slots, entries := (slotEvent own v bs s).entries, notices := (slotEvent own v bs s).notices, nextSeq := (slotEvent own v bs s).nextSeq, alertN := (slotEvent own v bs s).alertN } := by unfold slotEvent; rw [staleSlots_frame, raiseAll_frame]; rfl

@[simp] theorem slotEvent_pending (own : SlotNo → Bool) (v : Eight Slot) (bs : List NoticeBody) (s : State) : (slotEvent own v bs s).pending = s.pending := by rw [slotEvent_frame]
@[simp] theorem slotEvent_resetAsserted (own : SlotNo → Bool) (v : Eight Slot) (bs : List NoticeBody) (s : State) : (slotEvent own v bs s).resetAsserted = s.resetAsserted := by rw [slotEvent_frame]
@[simp] theorem slotEvent_pres (own : SlotNo → Bool) (v : Eight Slot) (bs : List NoticeBody) (s : State) : (slotEvent own v bs s).pres = s.pres := by rw [slotEvent_frame]
@[simp] theorem slotEvent_rateHigh (own : SlotNo → Bool) (v : Eight Slot) (bs : List NoticeBody) (s : State) : (slotEvent own v bs s).rateHigh = s.rateHigh := by rw [slotEvent_frame]
@[simp] theorem slotEvent_rx (own : SlotNo → Bool) (v : Eight Slot) (bs : List NoticeBody) (s : State) : (slotEvent own v bs s).rx = s.rx := by rw [slotEvent_frame]
@[simp] theorem slotEvent_inbox (own : SlotNo → Bool) (v : Eight Slot) (bs : List NoticeBody) (s : State) : (slotEvent own v bs s).inbox = s.inbox := by rw [slotEvent_frame]
@[simp] theorem slotEvent_tx (own : SlotNo → Bool) (v : Eight Slot) (bs : List NoticeBody) (s : State) : (slotEvent own v bs s).tx = s.tx := by rw [slotEvent_frame]
@[simp] theorem slotEvent_sending (own : SlotNo → Bool) (v : Eight Slot) (bs : List NoticeBody) (s : State) : (slotEvent own v bs s).sending = s.sending := by rw [slotEvent_frame]
@[simp] theorem slotEvent_closing (own : SlotNo → Bool) (v : Eight Slot) (bs : List NoticeBody) (s : State) : (slotEvent own v bs s).closing = s.closing := by rw [slotEvent_frame]
@[simp] theorem slotEvent_bus (own : SlotNo → Bool) (v : Eight Slot) (bs : List NoticeBody) (s : State) : (slotEvent own v bs s).bus = s.bus := by rw [slotEvent_frame]
@[simp] theorem slotEvent_jobs (own : SlotNo → Bool) (v : Eight Slot) (bs : List NoticeBody) (s : State) : (slotEvent own v bs s).jobs = s.jobs := by rw [slotEvent_frame]
@[simp] theorem slotEvent_inFlight (own : SlotNo → Bool) (v : Eight Slot) (bs : List NoticeBody) (s : State) : (slotEvent own v bs s).inFlight = s.inFlight := by rw [slotEvent_frame]
@[simp] theorem slotEvent_lineSpeed (own : SlotNo → Bool) (v : Eight Slot) (bs : List NoticeBody) (s : State) : (slotEvent own v bs s).lineSpeed = s.lineSpeed := by rw [slotEvent_frame]
@[simp] theorem slotEvent_pulses (own : SlotNo → Bool) (v : Eight Slot) (bs : List NoticeBody) (s : State) : (slotEvent own v bs s).pulses = s.pulses := by rw [slotEvent_frame]
@[simp] theorem slotEvent_config (own : SlotNo → Bool) (v : Eight Slot) (bs : List NoticeBody) (s : State) : (slotEvent own v bs s).config = s.config := by rw [slotEvent_frame]
@[simp] theorem slotEvent_target (own : SlotNo → Bool) (v : Eight Slot) (bs : List NoticeBody) (s : State) : (slotEvent own v bs s).target = s.target := by rw [slotEvent_frame]
@[simp] theorem slotEvent_targetGen (own : SlotNo → Bool) (v : Eight Slot) (bs : List NoticeBody) (s : State) : (slotEvent own v bs s).targetGen = s.targetGen := by rw [slotEvent_frame]
@[simp] theorem slotEvent_ladder (own : SlotNo → Bool) (v : Eight Slot) (bs : List NoticeBody) (s : State) : (slotEvent own v bs s).ladder = s.ladder := by rw [slotEvent_frame]
@[simp] theorem slotEvent_work (own : SlotNo → Bool) (v : Eight Slot) (bs : List NoticeBody) (s : State) : (slotEvent own v bs s).work = s.work := by rw [slotEvent_frame]
@[simp] theorem slotEvent_nextHandle (own : SlotNo → Bool) (v : Eight Slot) (bs : List NoticeBody) (s : State) : (slotEvent own v bs s).nextHandle = s.nextHandle := by rw [slotEvent_frame]
@[simp] theorem slotEvent_nextCreation (own : SlotNo → Bool) (v : Eight Slot) (bs : List NoticeBody) (s : State) : (slotEvent own v bs s).nextCreation = s.nextCreation := by rw [slotEvent_frame]

/-! ### failScans -/

/-- `failScans` changes no field but these. -/
theorem failScans_frame (ns : List SlotNo) (c : UnreadableCause) (s : State) :
    failScans ns c s = { s with slots := (failScans ns c s).slots, entries := (failScans ns c s).entries, notices := (failScans ns c s).notices, nextSeq := (failScans ns c s).nextSeq, alertN := (failScans ns c s).alertN } := by unfold failScans; rw [slotEvent_frame]

@[simp] theorem failScans_pending (ns : List SlotNo) (c : UnreadableCause) (s : State) : (failScans ns c s).pending = s.pending := by rw [failScans_frame]
@[simp] theorem failScans_resetAsserted (ns : List SlotNo) (c : UnreadableCause) (s : State) : (failScans ns c s).resetAsserted = s.resetAsserted := by rw [failScans_frame]
@[simp] theorem failScans_pres (ns : List SlotNo) (c : UnreadableCause) (s : State) : (failScans ns c s).pres = s.pres := by rw [failScans_frame]
@[simp] theorem failScans_rateHigh (ns : List SlotNo) (c : UnreadableCause) (s : State) : (failScans ns c s).rateHigh = s.rateHigh := by rw [failScans_frame]
@[simp] theorem failScans_rx (ns : List SlotNo) (c : UnreadableCause) (s : State) : (failScans ns c s).rx = s.rx := by rw [failScans_frame]
@[simp] theorem failScans_inbox (ns : List SlotNo) (c : UnreadableCause) (s : State) : (failScans ns c s).inbox = s.inbox := by rw [failScans_frame]
@[simp] theorem failScans_tx (ns : List SlotNo) (c : UnreadableCause) (s : State) : (failScans ns c s).tx = s.tx := by rw [failScans_frame]
@[simp] theorem failScans_sending (ns : List SlotNo) (c : UnreadableCause) (s : State) : (failScans ns c s).sending = s.sending := by rw [failScans_frame]
@[simp] theorem failScans_closing (ns : List SlotNo) (c : UnreadableCause) (s : State) : (failScans ns c s).closing = s.closing := by rw [failScans_frame]
@[simp] theorem failScans_bus (ns : List SlotNo) (c : UnreadableCause) (s : State) : (failScans ns c s).bus = s.bus := by rw [failScans_frame]
@[simp] theorem failScans_jobs (ns : List SlotNo) (c : UnreadableCause) (s : State) : (failScans ns c s).jobs = s.jobs := by rw [failScans_frame]
@[simp] theorem failScans_inFlight (ns : List SlotNo) (c : UnreadableCause) (s : State) : (failScans ns c s).inFlight = s.inFlight := by rw [failScans_frame]
@[simp] theorem failScans_lineSpeed (ns : List SlotNo) (c : UnreadableCause) (s : State) : (failScans ns c s).lineSpeed = s.lineSpeed := by rw [failScans_frame]
@[simp] theorem failScans_pulses (ns : List SlotNo) (c : UnreadableCause) (s : State) : (failScans ns c s).pulses = s.pulses := by rw [failScans_frame]
@[simp] theorem failScans_config (ns : List SlotNo) (c : UnreadableCause) (s : State) : (failScans ns c s).config = s.config := by rw [failScans_frame]
@[simp] theorem failScans_target (ns : List SlotNo) (c : UnreadableCause) (s : State) : (failScans ns c s).target = s.target := by rw [failScans_frame]
@[simp] theorem failScans_targetGen (ns : List SlotNo) (c : UnreadableCause) (s : State) : (failScans ns c s).targetGen = s.targetGen := by rw [failScans_frame]
@[simp] theorem failScans_ladder (ns : List SlotNo) (c : UnreadableCause) (s : State) : (failScans ns c s).ladder = s.ladder := by rw [failScans_frame]
@[simp] theorem failScans_work (ns : List SlotNo) (c : UnreadableCause) (s : State) : (failScans ns c s).work = s.work := by rw [failScans_frame]
@[simp] theorem failScans_nextHandle (ns : List SlotNo) (c : UnreadableCause) (s : State) : (failScans ns c s).nextHandle = s.nextHandle := by rw [failScans_frame]
@[simp] theorem failScans_nextCreation (ns : List SlotNo) (c : UnreadableCause) (s : State) : (failScans ns c s).nextCreation = s.nextCreation := by rw [failScans_frame]

/-! ### completeScan -/

/-- `completeScan` changes no field but these. -/
theorem completeScan_frame (n : SlotNo) (img : List Byte) (s : State) :
    completeScan n img s = { s with slots := (completeScan n img s).slots, entries := (completeScan n img s).entries, notices := (completeScan n img s).notices, nextSeq := (completeScan n img s).nextSeq, alertN := (completeScan n img s).alertN } := by unfold completeScan; simp only []; rw [slotEvent_frame]

@[simp] theorem completeScan_pending (n : SlotNo) (img : List Byte) (s : State) : (completeScan n img s).pending = s.pending := by rw [completeScan_frame]
@[simp] theorem completeScan_resetAsserted (n : SlotNo) (img : List Byte) (s : State) : (completeScan n img s).resetAsserted = s.resetAsserted := by rw [completeScan_frame]
@[simp] theorem completeScan_pres (n : SlotNo) (img : List Byte) (s : State) : (completeScan n img s).pres = s.pres := by rw [completeScan_frame]
@[simp] theorem completeScan_rateHigh (n : SlotNo) (img : List Byte) (s : State) : (completeScan n img s).rateHigh = s.rateHigh := by rw [completeScan_frame]
@[simp] theorem completeScan_rx (n : SlotNo) (img : List Byte) (s : State) : (completeScan n img s).rx = s.rx := by rw [completeScan_frame]
@[simp] theorem completeScan_inbox (n : SlotNo) (img : List Byte) (s : State) : (completeScan n img s).inbox = s.inbox := by rw [completeScan_frame]
@[simp] theorem completeScan_tx (n : SlotNo) (img : List Byte) (s : State) : (completeScan n img s).tx = s.tx := by rw [completeScan_frame]
@[simp] theorem completeScan_sending (n : SlotNo) (img : List Byte) (s : State) : (completeScan n img s).sending = s.sending := by rw [completeScan_frame]
@[simp] theorem completeScan_closing (n : SlotNo) (img : List Byte) (s : State) : (completeScan n img s).closing = s.closing := by rw [completeScan_frame]
@[simp] theorem completeScan_bus (n : SlotNo) (img : List Byte) (s : State) : (completeScan n img s).bus = s.bus := by rw [completeScan_frame]
@[simp] theorem completeScan_jobs (n : SlotNo) (img : List Byte) (s : State) : (completeScan n img s).jobs = s.jobs := by rw [completeScan_frame]
@[simp] theorem completeScan_inFlight (n : SlotNo) (img : List Byte) (s : State) : (completeScan n img s).inFlight = s.inFlight := by rw [completeScan_frame]
@[simp] theorem completeScan_lineSpeed (n : SlotNo) (img : List Byte) (s : State) : (completeScan n img s).lineSpeed = s.lineSpeed := by rw [completeScan_frame]
@[simp] theorem completeScan_pulses (n : SlotNo) (img : List Byte) (s : State) : (completeScan n img s).pulses = s.pulses := by rw [completeScan_frame]
@[simp] theorem completeScan_config (n : SlotNo) (img : List Byte) (s : State) : (completeScan n img s).config = s.config := by rw [completeScan_frame]
@[simp] theorem completeScan_target (n : SlotNo) (img : List Byte) (s : State) : (completeScan n img s).target = s.target := by rw [completeScan_frame]
@[simp] theorem completeScan_targetGen (n : SlotNo) (img : List Byte) (s : State) : (completeScan n img s).targetGen = s.targetGen := by rw [completeScan_frame]
@[simp] theorem completeScan_ladder (n : SlotNo) (img : List Byte) (s : State) : (completeScan n img s).ladder = s.ladder := by rw [completeScan_frame]
@[simp] theorem completeScan_work (n : SlotNo) (img : List Byte) (s : State) : (completeScan n img s).work = s.work := by rw [completeScan_frame]
@[simp] theorem completeScan_nextHandle (n : SlotNo) (img : List Byte) (s : State) : (completeScan n img s).nextHandle = s.nextHandle := by rw [completeScan_frame]
@[simp] theorem completeScan_nextCreation (n : SlotNo) (img : List Byte) (s : State) : (completeScan n img s).nextCreation = s.nextCreation := by rw [completeScan_frame]

/-! ### startSettling -/

/-- `startSettling` changes no field but these. -/
theorem startSettling_frame (n : SlotNo) (s : State) :
    startSettling n s = { s with slots := (startSettling n s).slots } := by unfold startSettling; split <;> rfl

@[simp] theorem startSettling_pending (n : SlotNo) (s : State) : (startSettling n s).pending = s.pending := by rw [startSettling_frame]
@[simp] theorem startSettling_resetAsserted (n : SlotNo) (s : State) : (startSettling n s).resetAsserted = s.resetAsserted := by rw [startSettling_frame]
@[simp] theorem startSettling_pres (n : SlotNo) (s : State) : (startSettling n s).pres = s.pres := by rw [startSettling_frame]
@[simp] theorem startSettling_alertN (n : SlotNo) (s : State) : (startSettling n s).alertN = s.alertN := by rw [startSettling_frame]
@[simp] theorem startSettling_rateHigh (n : SlotNo) (s : State) : (startSettling n s).rateHigh = s.rateHigh := by rw [startSettling_frame]
@[simp] theorem startSettling_rx (n : SlotNo) (s : State) : (startSettling n s).rx = s.rx := by rw [startSettling_frame]
@[simp] theorem startSettling_inbox (n : SlotNo) (s : State) : (startSettling n s).inbox = s.inbox := by rw [startSettling_frame]
@[simp] theorem startSettling_tx (n : SlotNo) (s : State) : (startSettling n s).tx = s.tx := by rw [startSettling_frame]
@[simp] theorem startSettling_sending (n : SlotNo) (s : State) : (startSettling n s).sending = s.sending := by rw [startSettling_frame]
@[simp] theorem startSettling_closing (n : SlotNo) (s : State) : (startSettling n s).closing = s.closing := by rw [startSettling_frame]
@[simp] theorem startSettling_bus (n : SlotNo) (s : State) : (startSettling n s).bus = s.bus := by rw [startSettling_frame]
@[simp] theorem startSettling_jobs (n : SlotNo) (s : State) : (startSettling n s).jobs = s.jobs := by rw [startSettling_frame]
@[simp] theorem startSettling_inFlight (n : SlotNo) (s : State) : (startSettling n s).inFlight = s.inFlight := by rw [startSettling_frame]
@[simp] theorem startSettling_lineSpeed (n : SlotNo) (s : State) : (startSettling n s).lineSpeed = s.lineSpeed := by rw [startSettling_frame]
@[simp] theorem startSettling_pulses (n : SlotNo) (s : State) : (startSettling n s).pulses = s.pulses := by rw [startSettling_frame]
@[simp] theorem startSettling_config (n : SlotNo) (s : State) : (startSettling n s).config = s.config := by rw [startSettling_frame]
@[simp] theorem startSettling_target (n : SlotNo) (s : State) : (startSettling n s).target = s.target := by rw [startSettling_frame]
@[simp] theorem startSettling_targetGen (n : SlotNo) (s : State) : (startSettling n s).targetGen = s.targetGen := by rw [startSettling_frame]
@[simp] theorem startSettling_ladder (n : SlotNo) (s : State) : (startSettling n s).ladder = s.ladder := by rw [startSettling_frame]
@[simp] theorem startSettling_work (n : SlotNo) (s : State) : (startSettling n s).work = s.work := by rw [startSettling_frame]
@[simp] theorem startSettling_entries (n : SlotNo) (s : State) : (startSettling n s).entries = s.entries := by rw [startSettling_frame]
@[simp] theorem startSettling_nextHandle (n : SlotNo) (s : State) : (startSettling n s).nextHandle = s.nextHandle := by rw [startSettling_frame]
@[simp] theorem startSettling_nextCreation (n : SlotNo) (s : State) : (startSettling n s).nextCreation = s.nextCreation := by rw [startSettling_frame]
@[simp] theorem startSettling_notices (n : SlotNo) (s : State) : (startSettling n s).notices = s.notices := by rw [startSettling_frame]
@[simp] theorem startSettling_nextSeq (n : SlotNo) (s : State) : (startSettling n s).nextSeq = s.nextSeq := by rw [startSettling_frame]

/-! ### startNext -/

/-- `startNext` changes no field but these. -/
theorem startNext_frame (s : State) :
    startNext s = { s with inFlight := (startNext s).inFlight, lineSpeed := (startNext s).lineSpeed, bus := (startNext s).bus, pulses := (startNext s).pulses, jobs := (startNext s).jobs } := by unfold startNext startJob; split <;> rfl

@[simp] theorem startNext_pending (s : State) : (startNext s).pending = s.pending := by rw [startNext_frame]
@[simp] theorem startNext_resetAsserted (s : State) : (startNext s).resetAsserted = s.resetAsserted := by rw [startNext_frame]
@[simp] theorem startNext_pres (s : State) : (startNext s).pres = s.pres := by rw [startNext_frame]
@[simp] theorem startNext_alertN (s : State) : (startNext s).alertN = s.alertN := by rw [startNext_frame]
@[simp] theorem startNext_rateHigh (s : State) : (startNext s).rateHigh = s.rateHigh := by rw [startNext_frame]
@[simp] theorem startNext_rx (s : State) : (startNext s).rx = s.rx := by rw [startNext_frame]
@[simp] theorem startNext_inbox (s : State) : (startNext s).inbox = s.inbox := by rw [startNext_frame]
@[simp] theorem startNext_tx (s : State) : (startNext s).tx = s.tx := by rw [startNext_frame]
@[simp] theorem startNext_sending (s : State) : (startNext s).sending = s.sending := by rw [startNext_frame]
@[simp] theorem startNext_closing (s : State) : (startNext s).closing = s.closing := by rw [startNext_frame]
@[simp] theorem startNext_slots (s : State) : (startNext s).slots = s.slots := by rw [startNext_frame]
@[simp] theorem startNext_config (s : State) : (startNext s).config = s.config := by rw [startNext_frame]
@[simp] theorem startNext_target (s : State) : (startNext s).target = s.target := by rw [startNext_frame]
@[simp] theorem startNext_targetGen (s : State) : (startNext s).targetGen = s.targetGen := by rw [startNext_frame]
@[simp] theorem startNext_ladder (s : State) : (startNext s).ladder = s.ladder := by rw [startNext_frame]
@[simp] theorem startNext_work (s : State) : (startNext s).work = s.work := by rw [startNext_frame]
@[simp] theorem startNext_entries (s : State) : (startNext s).entries = s.entries := by rw [startNext_frame]
@[simp] theorem startNext_nextHandle (s : State) : (startNext s).nextHandle = s.nextHandle := by rw [startNext_frame]
@[simp] theorem startNext_nextCreation (s : State) : (startNext s).nextCreation = s.nextCreation := by rw [startNext_frame]
@[simp] theorem startNext_notices (s : State) : (startNext s).notices = s.notices := by rw [startNext_frame]
@[simp] theorem startNext_nextSeq (s : State) : (startNext s).nextSeq = s.nextSeq := by rw [startNext_frame]

/-! ### finishJob -/

/-- `finishJob` changes no field but these. -/
theorem finishJob_frame (s : State) :
    finishJob s = { s with inFlight := (finishJob s).inFlight, lineSpeed := (finishJob s).lineSpeed, bus := (finishJob s).bus, pulses := (finishJob s).pulses, jobs := (finishJob s).jobs } := by unfold finishJob; rw [startNext_frame]

@[simp] theorem finishJob_pending (s : State) : (finishJob s).pending = s.pending := by rw [finishJob_frame]
@[simp] theorem finishJob_resetAsserted (s : State) : (finishJob s).resetAsserted = s.resetAsserted := by rw [finishJob_frame]
@[simp] theorem finishJob_pres (s : State) : (finishJob s).pres = s.pres := by rw [finishJob_frame]
@[simp] theorem finishJob_alertN (s : State) : (finishJob s).alertN = s.alertN := by rw [finishJob_frame]
@[simp] theorem finishJob_rateHigh (s : State) : (finishJob s).rateHigh = s.rateHigh := by rw [finishJob_frame]
@[simp] theorem finishJob_rx (s : State) : (finishJob s).rx = s.rx := by rw [finishJob_frame]
@[simp] theorem finishJob_inbox (s : State) : (finishJob s).inbox = s.inbox := by rw [finishJob_frame]
@[simp] theorem finishJob_tx (s : State) : (finishJob s).tx = s.tx := by rw [finishJob_frame]
@[simp] theorem finishJob_sending (s : State) : (finishJob s).sending = s.sending := by rw [finishJob_frame]
@[simp] theorem finishJob_closing (s : State) : (finishJob s).closing = s.closing := by rw [finishJob_frame]
@[simp] theorem finishJob_slots (s : State) : (finishJob s).slots = s.slots := by rw [finishJob_frame]
@[simp] theorem finishJob_config (s : State) : (finishJob s).config = s.config := by rw [finishJob_frame]
@[simp] theorem finishJob_target (s : State) : (finishJob s).target = s.target := by rw [finishJob_frame]
@[simp] theorem finishJob_targetGen (s : State) : (finishJob s).targetGen = s.targetGen := by rw [finishJob_frame]
@[simp] theorem finishJob_ladder (s : State) : (finishJob s).ladder = s.ladder := by rw [finishJob_frame]
@[simp] theorem finishJob_work (s : State) : (finishJob s).work = s.work := by rw [finishJob_frame]
@[simp] theorem finishJob_entries (s : State) : (finishJob s).entries = s.entries := by rw [finishJob_frame]
@[simp] theorem finishJob_nextHandle (s : State) : (finishJob s).nextHandle = s.nextHandle := by rw [finishJob_frame]
@[simp] theorem finishJob_nextCreation (s : State) : (finishJob s).nextCreation = s.nextCreation := by rw [finishJob_frame]
@[simp] theorem finishJob_notices (s : State) : (finishJob s).notices = s.notices := by rw [finishJob_frame]
@[simp] theorem finishJob_nextSeq (s : State) : (finishJob s).nextSeq = s.nextSeq := by rw [finishJob_frame]

/-! ### appendJob -/

/-- `appendJob` changes no field but these. -/
theorem appendJob_frame (j : Job) (s : State) :
    appendJob j s = { s with inFlight := (appendJob j s).inFlight, lineSpeed := (appendJob j s).lineSpeed, bus := (appendJob j s).bus, pulses := (appendJob j s).pulses, jobs := (appendJob j s).jobs } := by unfold appendJob; rw [startNext_frame]

@[simp] theorem appendJob_pending (j : Job) (s : State) : (appendJob j s).pending = s.pending := by rw [appendJob_frame]
@[simp] theorem appendJob_resetAsserted (j : Job) (s : State) : (appendJob j s).resetAsserted = s.resetAsserted := by rw [appendJob_frame]
@[simp] theorem appendJob_pres (j : Job) (s : State) : (appendJob j s).pres = s.pres := by rw [appendJob_frame]
@[simp] theorem appendJob_alertN (j : Job) (s : State) : (appendJob j s).alertN = s.alertN := by rw [appendJob_frame]
@[simp] theorem appendJob_rateHigh (j : Job) (s : State) : (appendJob j s).rateHigh = s.rateHigh := by rw [appendJob_frame]
@[simp] theorem appendJob_rx (j : Job) (s : State) : (appendJob j s).rx = s.rx := by rw [appendJob_frame]
@[simp] theorem appendJob_inbox (j : Job) (s : State) : (appendJob j s).inbox = s.inbox := by rw [appendJob_frame]
@[simp] theorem appendJob_tx (j : Job) (s : State) : (appendJob j s).tx = s.tx := by rw [appendJob_frame]
@[simp] theorem appendJob_sending (j : Job) (s : State) : (appendJob j s).sending = s.sending := by rw [appendJob_frame]
@[simp] theorem appendJob_closing (j : Job) (s : State) : (appendJob j s).closing = s.closing := by rw [appendJob_frame]
@[simp] theorem appendJob_slots (j : Job) (s : State) : (appendJob j s).slots = s.slots := by rw [appendJob_frame]
@[simp] theorem appendJob_config (j : Job) (s : State) : (appendJob j s).config = s.config := by rw [appendJob_frame]
@[simp] theorem appendJob_target (j : Job) (s : State) : (appendJob j s).target = s.target := by rw [appendJob_frame]
@[simp] theorem appendJob_targetGen (j : Job) (s : State) : (appendJob j s).targetGen = s.targetGen := by rw [appendJob_frame]
@[simp] theorem appendJob_ladder (j : Job) (s : State) : (appendJob j s).ladder = s.ladder := by rw [appendJob_frame]
@[simp] theorem appendJob_work (j : Job) (s : State) : (appendJob j s).work = s.work := by rw [appendJob_frame]
@[simp] theorem appendJob_entries (j : Job) (s : State) : (appendJob j s).entries = s.entries := by rw [appendJob_frame]
@[simp] theorem appendJob_nextHandle (j : Job) (s : State) : (appendJob j s).nextHandle = s.nextHandle := by rw [appendJob_frame]
@[simp] theorem appendJob_nextCreation (j : Job) (s : State) : (appendJob j s).nextCreation = s.nextCreation := by rw [appendJob_frame]
@[simp] theorem appendJob_notices (j : Job) (s : State) : (appendJob j s).notices = s.notices := by rw [appendJob_frame]
@[simp] theorem appendJob_nextSeq (j : Job) (s : State) : (appendJob j s).nextSeq = s.nextSeq := by rw [appendJob_frame]

/-! ### enqueueScan -/

/-- `enqueueScan` changes no field but these. -/
theorem enqueueScan_frame (n : SlotNo) (p : Bool) (tags : List Byte) (s : State) :
    enqueueScan n p tags s = { s with jobs := (enqueueScan n p tags s).jobs } := by unfold enqueueScan; split <;> rfl

@[simp] theorem enqueueScan_pending (n : SlotNo) (p : Bool) (tags : List Byte) (s : State) : (enqueueScan n p tags s).pending = s.pending := by rw [enqueueScan_frame]
@[simp] theorem enqueueScan_resetAsserted (n : SlotNo) (p : Bool) (tags : List Byte) (s : State) : (enqueueScan n p tags s).resetAsserted = s.resetAsserted := by rw [enqueueScan_frame]
@[simp] theorem enqueueScan_pres (n : SlotNo) (p : Bool) (tags : List Byte) (s : State) : (enqueueScan n p tags s).pres = s.pres := by rw [enqueueScan_frame]
@[simp] theorem enqueueScan_alertN (n : SlotNo) (p : Bool) (tags : List Byte) (s : State) : (enqueueScan n p tags s).alertN = s.alertN := by rw [enqueueScan_frame]
@[simp] theorem enqueueScan_rateHigh (n : SlotNo) (p : Bool) (tags : List Byte) (s : State) : (enqueueScan n p tags s).rateHigh = s.rateHigh := by rw [enqueueScan_frame]
@[simp] theorem enqueueScan_rx (n : SlotNo) (p : Bool) (tags : List Byte) (s : State) : (enqueueScan n p tags s).rx = s.rx := by rw [enqueueScan_frame]
@[simp] theorem enqueueScan_inbox (n : SlotNo) (p : Bool) (tags : List Byte) (s : State) : (enqueueScan n p tags s).inbox = s.inbox := by rw [enqueueScan_frame]
@[simp] theorem enqueueScan_tx (n : SlotNo) (p : Bool) (tags : List Byte) (s : State) : (enqueueScan n p tags s).tx = s.tx := by rw [enqueueScan_frame]
@[simp] theorem enqueueScan_sending (n : SlotNo) (p : Bool) (tags : List Byte) (s : State) : (enqueueScan n p tags s).sending = s.sending := by rw [enqueueScan_frame]
@[simp] theorem enqueueScan_closing (n : SlotNo) (p : Bool) (tags : List Byte) (s : State) : (enqueueScan n p tags s).closing = s.closing := by rw [enqueueScan_frame]
@[simp] theorem enqueueScan_slots (n : SlotNo) (p : Bool) (tags : List Byte) (s : State) : (enqueueScan n p tags s).slots = s.slots := by rw [enqueueScan_frame]
@[simp] theorem enqueueScan_bus (n : SlotNo) (p : Bool) (tags : List Byte) (s : State) : (enqueueScan n p tags s).bus = s.bus := by rw [enqueueScan_frame]
@[simp] theorem enqueueScan_inFlight (n : SlotNo) (p : Bool) (tags : List Byte) (s : State) : (enqueueScan n p tags s).inFlight = s.inFlight := by rw [enqueueScan_frame]
@[simp] theorem enqueueScan_lineSpeed (n : SlotNo) (p : Bool) (tags : List Byte) (s : State) : (enqueueScan n p tags s).lineSpeed = s.lineSpeed := by rw [enqueueScan_frame]
@[simp] theorem enqueueScan_pulses (n : SlotNo) (p : Bool) (tags : List Byte) (s : State) : (enqueueScan n p tags s).pulses = s.pulses := by rw [enqueueScan_frame]
@[simp] theorem enqueueScan_config (n : SlotNo) (p : Bool) (tags : List Byte) (s : State) : (enqueueScan n p tags s).config = s.config := by rw [enqueueScan_frame]
@[simp] theorem enqueueScan_target (n : SlotNo) (p : Bool) (tags : List Byte) (s : State) : (enqueueScan n p tags s).target = s.target := by rw [enqueueScan_frame]
@[simp] theorem enqueueScan_targetGen (n : SlotNo) (p : Bool) (tags : List Byte) (s : State) : (enqueueScan n p tags s).targetGen = s.targetGen := by rw [enqueueScan_frame]
@[simp] theorem enqueueScan_ladder (n : SlotNo) (p : Bool) (tags : List Byte) (s : State) : (enqueueScan n p tags s).ladder = s.ladder := by rw [enqueueScan_frame]
@[simp] theorem enqueueScan_work (n : SlotNo) (p : Bool) (tags : List Byte) (s : State) : (enqueueScan n p tags s).work = s.work := by rw [enqueueScan_frame]
@[simp] theorem enqueueScan_entries (n : SlotNo) (p : Bool) (tags : List Byte) (s : State) : (enqueueScan n p tags s).entries = s.entries := by rw [enqueueScan_frame]
@[simp] theorem enqueueScan_nextHandle (n : SlotNo) (p : Bool) (tags : List Byte) (s : State) : (enqueueScan n p tags s).nextHandle = s.nextHandle := by rw [enqueueScan_frame]
@[simp] theorem enqueueScan_nextCreation (n : SlotNo) (p : Bool) (tags : List Byte) (s : State) : (enqueueScan n p tags s).nextCreation = s.nextCreation := by rw [enqueueScan_frame]
@[simp] theorem enqueueScan_notices (n : SlotNo) (p : Bool) (tags : List Byte) (s : State) : (enqueueScan n p tags s).notices = s.notices := by rw [enqueueScan_frame]
@[simp] theorem enqueueScan_nextSeq (n : SlotNo) (p : Bool) (tags : List Byte) (s : State) : (enqueueScan n p tags s).nextSeq = s.nextSeq := by rw [enqueueScan_frame]

/-! ### demandScan -/

/-- `demandScan` changes no field but these. -/
theorem demandScan_frame (n : SlotNo) (p : Bool) (tags : List Byte) (s : State) :
    demandScan n p tags s = { s with inFlight := (demandScan n p tags s).inFlight, lineSpeed := (demandScan n p tags s).lineSpeed, bus := (demandScan n p tags s).bus, pulses := (demandScan n p tags s).pulses, jobs := (demandScan n p tags s).jobs } := by unfold demandScan; rw [startNext_frame, enqueueScan_frame]

@[simp] theorem demandScan_pending (n : SlotNo) (p : Bool) (tags : List Byte) (s : State) : (demandScan n p tags s).pending = s.pending := by rw [demandScan_frame]
@[simp] theorem demandScan_resetAsserted (n : SlotNo) (p : Bool) (tags : List Byte) (s : State) : (demandScan n p tags s).resetAsserted = s.resetAsserted := by rw [demandScan_frame]
@[simp] theorem demandScan_pres (n : SlotNo) (p : Bool) (tags : List Byte) (s : State) : (demandScan n p tags s).pres = s.pres := by rw [demandScan_frame]
@[simp] theorem demandScan_alertN (n : SlotNo) (p : Bool) (tags : List Byte) (s : State) : (demandScan n p tags s).alertN = s.alertN := by rw [demandScan_frame]
@[simp] theorem demandScan_rateHigh (n : SlotNo) (p : Bool) (tags : List Byte) (s : State) : (demandScan n p tags s).rateHigh = s.rateHigh := by rw [demandScan_frame]
@[simp] theorem demandScan_rx (n : SlotNo) (p : Bool) (tags : List Byte) (s : State) : (demandScan n p tags s).rx = s.rx := by rw [demandScan_frame]
@[simp] theorem demandScan_inbox (n : SlotNo) (p : Bool) (tags : List Byte) (s : State) : (demandScan n p tags s).inbox = s.inbox := by rw [demandScan_frame]
@[simp] theorem demandScan_tx (n : SlotNo) (p : Bool) (tags : List Byte) (s : State) : (demandScan n p tags s).tx = s.tx := by rw [demandScan_frame]
@[simp] theorem demandScan_sending (n : SlotNo) (p : Bool) (tags : List Byte) (s : State) : (demandScan n p tags s).sending = s.sending := by rw [demandScan_frame]
@[simp] theorem demandScan_closing (n : SlotNo) (p : Bool) (tags : List Byte) (s : State) : (demandScan n p tags s).closing = s.closing := by rw [demandScan_frame]
@[simp] theorem demandScan_slots (n : SlotNo) (p : Bool) (tags : List Byte) (s : State) : (demandScan n p tags s).slots = s.slots := by rw [demandScan_frame]
@[simp] theorem demandScan_config (n : SlotNo) (p : Bool) (tags : List Byte) (s : State) : (demandScan n p tags s).config = s.config := by rw [demandScan_frame]
@[simp] theorem demandScan_target (n : SlotNo) (p : Bool) (tags : List Byte) (s : State) : (demandScan n p tags s).target = s.target := by rw [demandScan_frame]
@[simp] theorem demandScan_targetGen (n : SlotNo) (p : Bool) (tags : List Byte) (s : State) : (demandScan n p tags s).targetGen = s.targetGen := by rw [demandScan_frame]
@[simp] theorem demandScan_ladder (n : SlotNo) (p : Bool) (tags : List Byte) (s : State) : (demandScan n p tags s).ladder = s.ladder := by rw [demandScan_frame]
@[simp] theorem demandScan_work (n : SlotNo) (p : Bool) (tags : List Byte) (s : State) : (demandScan n p tags s).work = s.work := by rw [demandScan_frame]
@[simp] theorem demandScan_entries (n : SlotNo) (p : Bool) (tags : List Byte) (s : State) : (demandScan n p tags s).entries = s.entries := by rw [demandScan_frame]
@[simp] theorem demandScan_nextHandle (n : SlotNo) (p : Bool) (tags : List Byte) (s : State) : (demandScan n p tags s).nextHandle = s.nextHandle := by rw [demandScan_frame]
@[simp] theorem demandScan_nextCreation (n : SlotNo) (p : Bool) (tags : List Byte) (s : State) : (demandScan n p tags s).nextCreation = s.nextCreation := by rw [demandScan_frame]
@[simp] theorem demandScan_notices (n : SlotNo) (p : Bool) (tags : List Byte) (s : State) : (demandScan n p tags s).notices = s.notices := by rw [demandScan_frame]
@[simp] theorem demandScan_nextSeq (n : SlotNo) (p : Bool) (tags : List Byte) (s : State) : (demandScan n p tags s).nextSeq = s.nextSeq := by rw [demandScan_frame]

/-! ### endStopped -/

/-- `endStopped` changes no field but these. -/
theorem endStopped_frame (f : InFlight) (s : State) :
    endStopped f s = { s with tx := (endStopped f s).tx, inbox := (endStopped f s).inbox, inFlight := (endStopped f s).inFlight, lineSpeed := (endStopped f s).lineSpeed, bus := (endStopped f s).bus, pulses := (endStopped f s).pulses, jobs := (endStopped f s).jobs } := by unfold endStopped; rw [finishJob_frame, endTags_frame]

@[simp] theorem endStopped_pending (f : InFlight) (s : State) : (endStopped f s).pending = s.pending := by rw [endStopped_frame]
@[simp] theorem endStopped_resetAsserted (f : InFlight) (s : State) : (endStopped f s).resetAsserted = s.resetAsserted := by rw [endStopped_frame]
@[simp] theorem endStopped_pres (f : InFlight) (s : State) : (endStopped f s).pres = s.pres := by rw [endStopped_frame]
@[simp] theorem endStopped_alertN (f : InFlight) (s : State) : (endStopped f s).alertN = s.alertN := by rw [endStopped_frame]
@[simp] theorem endStopped_rateHigh (f : InFlight) (s : State) : (endStopped f s).rateHigh = s.rateHigh := by rw [endStopped_frame]
@[simp] theorem endStopped_rx (f : InFlight) (s : State) : (endStopped f s).rx = s.rx := by rw [endStopped_frame]
@[simp] theorem endStopped_sending (f : InFlight) (s : State) : (endStopped f s).sending = s.sending := by rw [endStopped_frame]
@[simp] theorem endStopped_closing (f : InFlight) (s : State) : (endStopped f s).closing = s.closing := by rw [endStopped_frame]
@[simp] theorem endStopped_slots (f : InFlight) (s : State) : (endStopped f s).slots = s.slots := by rw [endStopped_frame]
@[simp] theorem endStopped_config (f : InFlight) (s : State) : (endStopped f s).config = s.config := by rw [endStopped_frame]
@[simp] theorem endStopped_target (f : InFlight) (s : State) : (endStopped f s).target = s.target := by rw [endStopped_frame]
@[simp] theorem endStopped_targetGen (f : InFlight) (s : State) : (endStopped f s).targetGen = s.targetGen := by rw [endStopped_frame]
@[simp] theorem endStopped_ladder (f : InFlight) (s : State) : (endStopped f s).ladder = s.ladder := by rw [endStopped_frame]
@[simp] theorem endStopped_work (f : InFlight) (s : State) : (endStopped f s).work = s.work := by rw [endStopped_frame]
@[simp] theorem endStopped_entries (f : InFlight) (s : State) : (endStopped f s).entries = s.entries := by rw [endStopped_frame]
@[simp] theorem endStopped_nextHandle (f : InFlight) (s : State) : (endStopped f s).nextHandle = s.nextHandle := by rw [endStopped_frame]
@[simp] theorem endStopped_nextCreation (f : InFlight) (s : State) : (endStopped f s).nextCreation = s.nextCreation := by rw [endStopped_frame]
@[simp] theorem endStopped_notices (f : InFlight) (s : State) : (endStopped f s).notices = s.notices := by rw [endStopped_frame]
@[simp] theorem endStopped_nextSeq (f : InFlight) (s : State) : (endStopped f s).nextSeq = s.nextSeq := by rw [endStopped_frame]

/-! ### markToStop -/

/-- `markToStop` changes no field but these. -/
theorem markToStop_frame (f : InFlight) (s : State) :
    markToStop f s = { s with tx := (markToStop f s).tx, inbox := (markToStop f s).inbox, inFlight := (markToStop f s).inFlight, lineSpeed := (markToStop f s).lineSpeed, bus := (markToStop f s).bus, pulses := (markToStop f s).pulses, jobs := (markToStop f s).jobs } := by unfold markToStop; split <;> [rw [endStopped_frame]; rfl]

@[simp] theorem markToStop_pending (f : InFlight) (s : State) : (markToStop f s).pending = s.pending := by rw [markToStop_frame]
@[simp] theorem markToStop_resetAsserted (f : InFlight) (s : State) : (markToStop f s).resetAsserted = s.resetAsserted := by rw [markToStop_frame]
@[simp] theorem markToStop_pres (f : InFlight) (s : State) : (markToStop f s).pres = s.pres := by rw [markToStop_frame]
@[simp] theorem markToStop_alertN (f : InFlight) (s : State) : (markToStop f s).alertN = s.alertN := by rw [markToStop_frame]
@[simp] theorem markToStop_rateHigh (f : InFlight) (s : State) : (markToStop f s).rateHigh = s.rateHigh := by rw [markToStop_frame]
@[simp] theorem markToStop_rx (f : InFlight) (s : State) : (markToStop f s).rx = s.rx := by rw [markToStop_frame]
@[simp] theorem markToStop_sending (f : InFlight) (s : State) : (markToStop f s).sending = s.sending := by rw [markToStop_frame]
@[simp] theorem markToStop_closing (f : InFlight) (s : State) : (markToStop f s).closing = s.closing := by rw [markToStop_frame]
@[simp] theorem markToStop_slots (f : InFlight) (s : State) : (markToStop f s).slots = s.slots := by rw [markToStop_frame]
@[simp] theorem markToStop_config (f : InFlight) (s : State) : (markToStop f s).config = s.config := by rw [markToStop_frame]
@[simp] theorem markToStop_target (f : InFlight) (s : State) : (markToStop f s).target = s.target := by rw [markToStop_frame]
@[simp] theorem markToStop_targetGen (f : InFlight) (s : State) : (markToStop f s).targetGen = s.targetGen := by rw [markToStop_frame]
@[simp] theorem markToStop_ladder (f : InFlight) (s : State) : (markToStop f s).ladder = s.ladder := by rw [markToStop_frame]
@[simp] theorem markToStop_work (f : InFlight) (s : State) : (markToStop f s).work = s.work := by rw [markToStop_frame]
@[simp] theorem markToStop_entries (f : InFlight) (s : State) : (markToStop f s).entries = s.entries := by rw [markToStop_frame]
@[simp] theorem markToStop_nextHandle (f : InFlight) (s : State) : (markToStop f s).nextHandle = s.nextHandle := by rw [markToStop_frame]
@[simp] theorem markToStop_nextCreation (f : InFlight) (s : State) : (markToStop f s).nextCreation = s.nextCreation := by rw [markToStop_frame]
@[simp] theorem markToStop_notices (f : InFlight) (s : State) : (markToStop f s).notices = s.notices := by rw [markToStop_frame]
@[simp] theorem markToStop_nextSeq (f : InFlight) (s : State) : (markToStop f s).nextSeq = s.nextSeq := by rw [markToStop_frame]

/-! ### enterFaulted -/

/-- `enterFaulted` changes no field but these. -/
theorem enterFaulted_frame (ann : Bool) (s : State) :
    enterFaulted ann s = { s with tx := (enterFaulted ann s).tx, inbox := (enterFaulted ann s).inbox, bus := (enterFaulted ann s).bus, inFlight := (enterFaulted ann s).inFlight, jobs := (enterFaulted ann s).jobs, slots := (enterFaulted ann s).slots, entries := (enterFaulted ann s).entries, notices := (enterFaulted ann s).notices, nextSeq := (enterFaulted ann s).nextSeq, alertN := (enterFaulted ann s).alertN } := by unfold enterFaulted; simp only []; split <;> [rw [raise_frame, failScans_frame, endTags_frame]; rw [failScans_frame, endTags_frame]]

@[simp] theorem enterFaulted_pending (ann : Bool) (s : State) : (enterFaulted ann s).pending = s.pending := by rw [enterFaulted_frame]
@[simp] theorem enterFaulted_resetAsserted (ann : Bool) (s : State) : (enterFaulted ann s).resetAsserted = s.resetAsserted := by rw [enterFaulted_frame]
@[simp] theorem enterFaulted_pres (ann : Bool) (s : State) : (enterFaulted ann s).pres = s.pres := by rw [enterFaulted_frame]
@[simp] theorem enterFaulted_rateHigh (ann : Bool) (s : State) : (enterFaulted ann s).rateHigh = s.rateHigh := by rw [enterFaulted_frame]
@[simp] theorem enterFaulted_rx (ann : Bool) (s : State) : (enterFaulted ann s).rx = s.rx := by rw [enterFaulted_frame]
@[simp] theorem enterFaulted_sending (ann : Bool) (s : State) : (enterFaulted ann s).sending = s.sending := by rw [enterFaulted_frame]
@[simp] theorem enterFaulted_closing (ann : Bool) (s : State) : (enterFaulted ann s).closing = s.closing := by rw [enterFaulted_frame]
@[simp] theorem enterFaulted_lineSpeed (ann : Bool) (s : State) : (enterFaulted ann s).lineSpeed = s.lineSpeed := by rw [enterFaulted_frame]
@[simp] theorem enterFaulted_pulses (ann : Bool) (s : State) : (enterFaulted ann s).pulses = s.pulses := by rw [enterFaulted_frame]
@[simp] theorem enterFaulted_config (ann : Bool) (s : State) : (enterFaulted ann s).config = s.config := by rw [enterFaulted_frame]
@[simp] theorem enterFaulted_target (ann : Bool) (s : State) : (enterFaulted ann s).target = s.target := by rw [enterFaulted_frame]
@[simp] theorem enterFaulted_targetGen (ann : Bool) (s : State) : (enterFaulted ann s).targetGen = s.targetGen := by rw [enterFaulted_frame]
@[simp] theorem enterFaulted_ladder (ann : Bool) (s : State) : (enterFaulted ann s).ladder = s.ladder := by rw [enterFaulted_frame]
@[simp] theorem enterFaulted_work (ann : Bool) (s : State) : (enterFaulted ann s).work = s.work := by rw [enterFaulted_frame]
@[simp] theorem enterFaulted_nextHandle (ann : Bool) (s : State) : (enterFaulted ann s).nextHandle = s.nextHandle := by rw [enterFaulted_frame]
@[simp] theorem enterFaulted_nextCreation (ann : Bool) (s : State) : (enterFaulted ann s).nextCreation = s.nextCreation := by rw [enterFaulted_frame]

/-! ### evict -/

/-- `evict` changes no field but these. -/
theorem evict_frame (s : State) :
    evict s = { s with entries := (evict s).entries } := by unfold evict; split <;> rfl

@[simp] theorem evict_pending (s : State) : (evict s).pending = s.pending := by rw [evict_frame]
@[simp] theorem evict_resetAsserted (s : State) : (evict s).resetAsserted = s.resetAsserted := by rw [evict_frame]
@[simp] theorem evict_pres (s : State) : (evict s).pres = s.pres := by rw [evict_frame]
@[simp] theorem evict_alertN (s : State) : (evict s).alertN = s.alertN := by rw [evict_frame]
@[simp] theorem evict_rateHigh (s : State) : (evict s).rateHigh = s.rateHigh := by rw [evict_frame]
@[simp] theorem evict_rx (s : State) : (evict s).rx = s.rx := by rw [evict_frame]
@[simp] theorem evict_inbox (s : State) : (evict s).inbox = s.inbox := by rw [evict_frame]
@[simp] theorem evict_tx (s : State) : (evict s).tx = s.tx := by rw [evict_frame]
@[simp] theorem evict_sending (s : State) : (evict s).sending = s.sending := by rw [evict_frame]
@[simp] theorem evict_closing (s : State) : (evict s).closing = s.closing := by rw [evict_frame]
@[simp] theorem evict_slots (s : State) : (evict s).slots = s.slots := by rw [evict_frame]
@[simp] theorem evict_bus (s : State) : (evict s).bus = s.bus := by rw [evict_frame]
@[simp] theorem evict_jobs (s : State) : (evict s).jobs = s.jobs := by rw [evict_frame]
@[simp] theorem evict_inFlight (s : State) : (evict s).inFlight = s.inFlight := by rw [evict_frame]
@[simp] theorem evict_lineSpeed (s : State) : (evict s).lineSpeed = s.lineSpeed := by rw [evict_frame]
@[simp] theorem evict_pulses (s : State) : (evict s).pulses = s.pulses := by rw [evict_frame]
@[simp] theorem evict_config (s : State) : (evict s).config = s.config := by rw [evict_frame]
@[simp] theorem evict_target (s : State) : (evict s).target = s.target := by rw [evict_frame]
@[simp] theorem evict_targetGen (s : State) : (evict s).targetGen = s.targetGen := by rw [evict_frame]
@[simp] theorem evict_ladder (s : State) : (evict s).ladder = s.ladder := by rw [evict_frame]
@[simp] theorem evict_work (s : State) : (evict s).work = s.work := by rw [evict_frame]
@[simp] theorem evict_nextHandle (s : State) : (evict s).nextHandle = s.nextHandle := by rw [evict_frame]
@[simp] theorem evict_nextCreation (s : State) : (evict s).nextCreation = s.nextCreation := by rw [evict_frame]
@[simp] theorem evict_notices (s : State) : (evict s).notices = s.notices := by rw [evict_frame]
@[simp] theorem evict_nextSeq (s : State) : (evict s).nextSeq = s.nextSeq := by rw [evict_frame]

/-! ### handOver -/

/-- `handOver` changes no field but these. -/
theorem handOver_frame (s : State) :
    handOver s = { s with entries := (handOver s).entries, work := (handOver s).work } := by unfold handOver setEntry; split <;> [(split <;> rfl); rfl; rfl]

@[simp] theorem handOver_pending (s : State) : (handOver s).pending = s.pending := by rw [handOver_frame]
@[simp] theorem handOver_resetAsserted (s : State) : (handOver s).resetAsserted = s.resetAsserted := by rw [handOver_frame]
@[simp] theorem handOver_pres (s : State) : (handOver s).pres = s.pres := by rw [handOver_frame]
@[simp] theorem handOver_alertN (s : State) : (handOver s).alertN = s.alertN := by rw [handOver_frame]
@[simp] theorem handOver_rateHigh (s : State) : (handOver s).rateHigh = s.rateHigh := by rw [handOver_frame]
@[simp] theorem handOver_rx (s : State) : (handOver s).rx = s.rx := by rw [handOver_frame]
@[simp] theorem handOver_inbox (s : State) : (handOver s).inbox = s.inbox := by rw [handOver_frame]
@[simp] theorem handOver_tx (s : State) : (handOver s).tx = s.tx := by rw [handOver_frame]
@[simp] theorem handOver_sending (s : State) : (handOver s).sending = s.sending := by rw [handOver_frame]
@[simp] theorem handOver_closing (s : State) : (handOver s).closing = s.closing := by rw [handOver_frame]
@[simp] theorem handOver_slots (s : State) : (handOver s).slots = s.slots := by rw [handOver_frame]
@[simp] theorem handOver_bus (s : State) : (handOver s).bus = s.bus := by rw [handOver_frame]
@[simp] theorem handOver_jobs (s : State) : (handOver s).jobs = s.jobs := by rw [handOver_frame]
@[simp] theorem handOver_inFlight (s : State) : (handOver s).inFlight = s.inFlight := by rw [handOver_frame]
@[simp] theorem handOver_lineSpeed (s : State) : (handOver s).lineSpeed = s.lineSpeed := by rw [handOver_frame]
@[simp] theorem handOver_pulses (s : State) : (handOver s).pulses = s.pulses := by rw [handOver_frame]
@[simp] theorem handOver_config (s : State) : (handOver s).config = s.config := by rw [handOver_frame]
@[simp] theorem handOver_target (s : State) : (handOver s).target = s.target := by rw [handOver_frame]
@[simp] theorem handOver_targetGen (s : State) : (handOver s).targetGen = s.targetGen := by rw [handOver_frame]
@[simp] theorem handOver_ladder (s : State) : (handOver s).ladder = s.ladder := by rw [handOver_frame]
@[simp] theorem handOver_nextHandle (s : State) : (handOver s).nextHandle = s.nextHandle := by rw [handOver_frame]
@[simp] theorem handOver_nextCreation (s : State) : (handOver s).nextCreation = s.nextCreation := by rw [handOver_frame]
@[simp] theorem handOver_notices (s : State) : (handOver s).notices = s.notices := by rw [handOver_frame]
@[simp] theorem handOver_nextSeq (s : State) : (handOver s).nextSeq = s.nextSeq := by rw [handOver_frame]

/-! ### dropEntry -/

/-- `dropEntry` changes no field but these. -/
theorem dropEntry_frame (e : Entry) (s : State) :
    dropEntry e s = { s with entries := (dropEntry e s).entries, work := (dropEntry e s).work, tx := (dropEntry e s).tx, inbox := (dropEntry e s).inbox } := by unfold dropEntry freeEntry; split <;> [rw [endRequest_frame]; rw [handOver_frame, endRequest_frame]; rfl; rfl; rfl]

@[simp] theorem dropEntry_pending (e : Entry) (s : State) : (dropEntry e s).pending = s.pending := by rw [dropEntry_frame]
@[simp] theorem dropEntry_resetAsserted (e : Entry) (s : State) : (dropEntry e s).resetAsserted = s.resetAsserted := by rw [dropEntry_frame]
@[simp] theorem dropEntry_pres (e : Entry) (s : State) : (dropEntry e s).pres = s.pres := by rw [dropEntry_frame]
@[simp] theorem dropEntry_alertN (e : Entry) (s : State) : (dropEntry e s).alertN = s.alertN := by rw [dropEntry_frame]
@[simp] theorem dropEntry_rateHigh (e : Entry) (s : State) : (dropEntry e s).rateHigh = s.rateHigh := by rw [dropEntry_frame]
@[simp] theorem dropEntry_rx (e : Entry) (s : State) : (dropEntry e s).rx = s.rx := by rw [dropEntry_frame]
@[simp] theorem dropEntry_sending (e : Entry) (s : State) : (dropEntry e s).sending = s.sending := by rw [dropEntry_frame]
@[simp] theorem dropEntry_closing (e : Entry) (s : State) : (dropEntry e s).closing = s.closing := by rw [dropEntry_frame]
@[simp] theorem dropEntry_slots (e : Entry) (s : State) : (dropEntry e s).slots = s.slots := by rw [dropEntry_frame]
@[simp] theorem dropEntry_bus (e : Entry) (s : State) : (dropEntry e s).bus = s.bus := by rw [dropEntry_frame]
@[simp] theorem dropEntry_jobs (e : Entry) (s : State) : (dropEntry e s).jobs = s.jobs := by rw [dropEntry_frame]
@[simp] theorem dropEntry_inFlight (e : Entry) (s : State) : (dropEntry e s).inFlight = s.inFlight := by rw [dropEntry_frame]
@[simp] theorem dropEntry_lineSpeed (e : Entry) (s : State) : (dropEntry e s).lineSpeed = s.lineSpeed := by rw [dropEntry_frame]
@[simp] theorem dropEntry_pulses (e : Entry) (s : State) : (dropEntry e s).pulses = s.pulses := by rw [dropEntry_frame]
@[simp] theorem dropEntry_config (e : Entry) (s : State) : (dropEntry e s).config = s.config := by rw [dropEntry_frame]
@[simp] theorem dropEntry_target (e : Entry) (s : State) : (dropEntry e s).target = s.target := by rw [dropEntry_frame]
@[simp] theorem dropEntry_targetGen (e : Entry) (s : State) : (dropEntry e s).targetGen = s.targetGen := by rw [dropEntry_frame]
@[simp] theorem dropEntry_ladder (e : Entry) (s : State) : (dropEntry e s).ladder = s.ladder := by rw [dropEntry_frame]
@[simp] theorem dropEntry_nextHandle (e : Entry) (s : State) : (dropEntry e s).nextHandle = s.nextHandle := by rw [dropEntry_frame]
@[simp] theorem dropEntry_nextCreation (e : Entry) (s : State) : (dropEntry e s).nextCreation = s.nextCreation := by rw [dropEntry_frame]
@[simp] theorem dropEntry_notices (e : Entry) (s : State) : (dropEntry e s).notices = s.notices := by rw [dropEntry_frame]
@[simp] theorem dropEntry_nextSeq (e : Entry) (s : State) : (dropEntry e s).nextSeq = s.nextSeq := by rw [dropEntry_frame]

/-! ### sessionBus -/

/-- `sessionBus` changes no field but these. -/
theorem sessionBus_frame (s : State) :
    sessionBus s = { s with tx := (sessionBus s).tx, inbox := (sessionBus s).inbox, inFlight := (sessionBus s).inFlight, lineSpeed := (sessionBus s).lineSpeed, bus := (sessionBus s).bus, pulses := (sessionBus s).pulses, jobs := (sessionBus s).jobs } := by unfold sessionBus; split <;> [rfl; (split <;> [(split <;> [rfl; rw [markToStop_frame]]); rw [markToStop_frame]; rfl; rfl])]

@[simp] theorem sessionBus_pending (s : State) : (sessionBus s).pending = s.pending := by rw [sessionBus_frame]
@[simp] theorem sessionBus_resetAsserted (s : State) : (sessionBus s).resetAsserted = s.resetAsserted := by rw [sessionBus_frame]
@[simp] theorem sessionBus_pres (s : State) : (sessionBus s).pres = s.pres := by rw [sessionBus_frame]
@[simp] theorem sessionBus_alertN (s : State) : (sessionBus s).alertN = s.alertN := by rw [sessionBus_frame]
@[simp] theorem sessionBus_rateHigh (s : State) : (sessionBus s).rateHigh = s.rateHigh := by rw [sessionBus_frame]
@[simp] theorem sessionBus_rx (s : State) : (sessionBus s).rx = s.rx := by rw [sessionBus_frame]
@[simp] theorem sessionBus_sending (s : State) : (sessionBus s).sending = s.sending := by rw [sessionBus_frame]
@[simp] theorem sessionBus_closing (s : State) : (sessionBus s).closing = s.closing := by rw [sessionBus_frame]
@[simp] theorem sessionBus_slots (s : State) : (sessionBus s).slots = s.slots := by rw [sessionBus_frame]
@[simp] theorem sessionBus_config (s : State) : (sessionBus s).config = s.config := by rw [sessionBus_frame]
@[simp] theorem sessionBus_target (s : State) : (sessionBus s).target = s.target := by rw [sessionBus_frame]
@[simp] theorem sessionBus_targetGen (s : State) : (sessionBus s).targetGen = s.targetGen := by rw [sessionBus_frame]
@[simp] theorem sessionBus_ladder (s : State) : (sessionBus s).ladder = s.ladder := by rw [sessionBus_frame]
@[simp] theorem sessionBus_work (s : State) : (sessionBus s).work = s.work := by rw [sessionBus_frame]
@[simp] theorem sessionBus_entries (s : State) : (sessionBus s).entries = s.entries := by rw [sessionBus_frame]
@[simp] theorem sessionBus_nextHandle (s : State) : (sessionBus s).nextHandle = s.nextHandle := by rw [sessionBus_frame]
@[simp] theorem sessionBus_nextCreation (s : State) : (sessionBus s).nextCreation = s.nextCreation := by rw [sessionBus_frame]
@[simp] theorem sessionBus_notices (s : State) : (sessionBus s).notices = s.notices := by rw [sessionBus_frame]
@[simp] theorem sessionBus_nextSeq (s : State) : (sessionBus s).nextSeq = s.nextSeq := by rw [sessionBus_frame]

end Sys2Proof.Machine
end

