-- ==== Sys2Proof/Laws/Ops.lean ====
section
/-! SUPPORT. What each shared operation does, said once: acceptance, replies, jobs, slot events, the hand-over. -/

namespace Sys2Proof.Machine

/-! ### Acceptance -/

/-- A frame that is taken and whose kind is a request kind is handed to its owner. -/
theorem acceptFrame_taken {tag kind : Byte} {s : State} (owner : State → State) (h : Taken s tag kind)
    (hk : kind ∈ requestKinds) : acceptFrame tag kind owner s = owner s := by
  obtain ⟨hr, hc, hp, ht, ho, hf⟩ := h
  have h1 : linkOpen s = true := by simp [linkOpen, hr, hc]
  have h2 : freePlaces s ≠ 0 := by simp only [freePlaces, Config.replyPlaces]; omega
  have h3 : isOutstanding s tag = false := by
    simp only [isOutstanding, List.any_eq_false, beq_iff_eq]; exact ho
  have h4 : requestKinds.contains kind = true := by simpa using hk
  have h5 : (decide (Config.maxOutstanding ≤ s.inbox.length) && !passesFull.contains kind) = false := by
    rcases hf with hf | hf | hf | hf
    · have : ¬ 4 ≤ s.inbox.length := by omega
      simp [Config.maxOutstanding, this]
    all_goals subst hf; simp [passesFull, kindFetchNotices, kindCancel, kindReset]
  have h6 : (!requestKinds.contains kind) = false := by rw [h4]; rfl
  unfold acceptFrame
  rw [h1, h3, h5, h6, if_neg h2, if_neg ht]
  rfl

/-- Without a free place a good frame is discarded OVERRUN. -/
theorem acceptFrame_overrun {s : State} (tag kind : Byte) (owner : State → State) (hl : linkOpen s = true)
    (hp : freePlaces s = 0) : acceptFrame tag kind owner s = raise (.linkFrameDropped .overrun) s := by
  simp [acceptFrame, hl, hp]

/-- While the receiver takes no bytes a frame has no effect. -/
theorem acceptFrame_closed {s : State} (tag kind : Byte) (owner : State → State) (hl : linkOpen s = false) :
    acceptFrame tag kind owner s = s := by
  simp [acceptFrame, hl]

/-- An immediate reply is one more reply at the end of the transmit order. -/
theorem answer_eq (tag kind : Byte) (st : Status) (payload : List Byte) (s : State) :
    answer tag kind st payload s = withReply tag kind st payload s := rfl

theorem refuse_eq (tag kind : Byte) (st : Status) (s : State) : refuse tag kind st s = withReply tag kind st [] s := rfl

/-! ### Replies -/

/-- Ending a request that is not outstanding changes nothing. -/
theorem endRequest_absent {tag : Byte} {s : State} (st : Status) (payload : List Byte)
    (h : ∀ o ∈ s.inbox, o.tag ≠ tag) : endRequest st payload tag s = s := by
  have : s.inbox.find? (fun o => o.tag == tag) = none := by simpa using h
  simp [endRequest, this]

/-- In an inbox without a repeated tag, ending an outstanding request removes its record alone and places its reply. -/
theorem endRequest_present {tag : Byte} {s : State} (st : Status) (payload : List Byte)
    (hn : (s.inbox.map Outstanding.tag).Nodup) (h : tag ∈ s.inbox.map Outstanding.tag) :
    endRequest st payload tag s =
      { s with
        inbox := s.inbox.filter fun o => o.tag != tag
        tx := s.tx ++ [{ tag := tag, kind := kindOf s tag, status := st, payload := payload }] } := by
  obtain ⟨o, ho, rfl⟩ := List.mem_map.mp h
  have key : ∀ (l : List Outstanding), (l.map Outstanding.tag).Nodup → o ∈ l →
      l.find? (fun x => x.tag == o.tag) = some o ∧ l.erase o = l.filter fun x => x.tag != o.tag := by
    intro l
    induction l with
    | nil => intro _ h; cases h
    | cons x xs ih =>
      intro hn hm
      simp only [List.map_cons, List.nodup_cons] at hn
      rcases List.mem_cons.mp hm with rfl | hm
      · refine ⟨by simp, ?_⟩
        have : ∀ y ∈ xs, (y.tag != o.tag) = true := by
          intro y hy
          simp only [bne_iff_ne, ne_eq]
          intro he; exact hn.1 (he ▸ List.mem_map_of_mem hy)
        simp [List.filter_eq_self.mpr this]
      · have hx : x.tag ≠ o.tag := fun he => hn.1 (he ▸ List.mem_map_of_mem hm)
        have hxo : x ≠ o := fun he => hx (he ▸ rfl)
        obtain ⟨h1, h2⟩ := ih hn.2 hm
        refine ⟨by simp [hx, h1], ?_⟩
        rw [List.erase_cons_tail (by simpa using hxo), h2]
        simp [hx]
  obtain ⟨h1, h2⟩ := key s.inbox hn ho
  simp [endRequest, h1, h2, place, kindOf]

/-- Another record's tag keeps its KIND when one tag's record is removed. -/
theorem kindOf_filter {s t : State} {g x : Byte} (h : t.inbox = s.inbox.filter fun o => o.tag != g) (hne : g ≠ x) :
    kindOf t x = kindOf s x := by
  have hf : (s.inbox.filter fun o => o.tag != g).find? (fun o => o.tag == x) = s.inbox.find? fun o => o.tag == x := by
    rw [List.find?_filter]
    congr 1; funext o
    by_cases ho : o.tag = x
    · simp [ho, Ne.symm hne]
    · simp [ho]
  simp only [kindOf, h, hf]

/-- Ending distinct outstanding tags together replies them in their order and removes exactly their records. -/
theorem endTags_replied (st : Status) (payload : List Byte) (tags : List Byte) (s : State) (hd : tags.Nodup)
    (hn : (s.inbox.map Outstanding.tag).Nodup) (h : ∀ g ∈ tags, g ∈ s.inbox.map Outstanding.tag) :
    endTags st payload tags s = repliedTags st payload tags s := by
  induction tags generalizing s with
  | nil => simp [endTags, repliedTags]
  | cons g gs ih =>
    have h1 := endRequest_present st payload hn (h g (by simp))
    simp only [List.nodup_cons] at hd
    have hstep : endTags st payload (g :: gs) s = endTags st payload gs (endRequest st payload g s) := rfl
    have hin : (endRequest st payload g s).inbox = s.inbox.filter fun o => o.tag != g := by rw [h1]
    rw [hstep, ih _ hd.2]
    · have hm : gs.map (fun x =>
            ({ tag := x, kind := kindOf (endRequest st payload g s) x, status := st, payload := payload } : Reply)) =
          gs.map fun x => { tag := x, kind := kindOf s x, status := st, payload := payload } :=
        List.map_congr_left fun x hx => by
          rw [kindOf_filter hin (fun he => hd.1 (he ▸ hx))]
      simp only [repliedTags, hm]
      rw [h1]
      simp only [List.append_assoc, List.map_cons, List.singleton_append]
      congr 1
      rw [List.filter_filter]
      congr 1; funext o
      by_cases h1 : o.tag = g <;> simp [h1]
    · rw [hin]; exact hn.sublist ((List.filter_sublist).map _)
    · intro x hx
      rw [hin]
      obtain ⟨o, ho, rfl⟩ := List.mem_map.mp (h x (by simp [hx]))
      refine List.mem_map_of_mem (List.mem_filter.mpr ⟨ho, ?_⟩)
      simp only [bne_iff_ne, ne_eq]
      intro he; exact hd.1 (he ▸ hx)

/-! ### Jobs -/

theorem startNext_idle {s : State} {j : Job} {rest : List Job} (hb : s.bus = .idle) (hj : s.jobs = j :: rest) :
    startNext s = startJob j false { s with jobs := rest } := by
  simp [startNext, hb, hj]

theorem startNext_not_idle {s : State} (hb : s.bus ≠ .idle) : startNext s = s := by
  unfold startNext; split
  · next h _ => exact absurd h hb
  · rfl

theorem startNext_no_job {s : State} (hj : s.jobs = []) : startNext s = s := by
  unfold startNext; split
  · next h => rw [hj] at h; cases h
  · rfl

/-- With no job waiting the end of a job leaves the bus IDLE. -/
theorem finishJob_no_job {s : State} (hj : s.jobs = []) : finishJob s = { s with inFlight := none, bus := .idle } :=
  startNext_no_job (s := { s with inFlight := none, bus := .idle }) hj

/-- With a job waiting the end of a job starts the oldest. -/
theorem finishJob_job {s : State} {j : Job} {rest : List Job} (hj : s.jobs = j :: rest) :
    finishJob s = startJob j false { s with inFlight := none, bus := .idle, jobs := rest } :=
  startNext_idle (s := { s with inFlight := none, bus := .idle }) rfl hj

theorem launch_stopMark (j : Job) (b : Bool) : (launch j b).stopMark = false := rfl

theorem launch_job (j : Job) (b : Bool) : (launch j b).job = j := rfl

/-! ### Slot events -/

/-- Clash sets depend on the keys alone. -/
theorem clashOf_congr {v w : Eight Slot} (h : ∀ n, (v.get n).key = (w.get n).key) (n : SlotNo) :
    clashOf v n = clashOf w n := by
  simp only [clashOf, h]

@[simp] theorem commitSlots_get (own : SlotNo → Bool) (changed : Eight Slot) (s : State) (n : SlotNo) :
    (commitSlots own changed s).slots.get n =
      { changed.get n with
        clash := clashOf changed n
        gen := if incremented own s.slots changed n then (changed.get n).gen + 1 else (changed.get n).gen } := by
  simp only [commitSlots, bumpGens, recomputeClashes, Eight.get_ofFn]
  split <;> rfl

/-- The slot records after a slot event. -/
@[simp] theorem slotEvent_slots (own : SlotNo → Bool) (changed : Eight Slot) (bodies : List NoticeBody) (s : State) :
    (slotEvent own changed bodies s).slots = (commitSlots own changed s).slots := by
  simp [slotEvent]

/-- Notices raised one after another. -/
theorem raiseAll_append (as bs : List NoticeBody) (s : State) : raiseAll (as ++ bs) s = raiseAll bs (raiseAll as s) := by
  simp [raiseAll]

/-! ### The pins -/

/-- While RESET_N is low SCL and SDA are released and TXD is high. -/
theorem pins_reset {s : State} (h : s.resetAsserted = true) :
    busLines s = .released ∧ txdFrame s = none ∧ txdLevels s = [] := by
  simp [busLines, txdLevels, txdFrame, h]

/-- With no reply being sent TXD is high. -/
theorem txdLevels_idle {s : State} (h : s.sending = none) : txdLevels s = [] := by
  simp [txdLevels, txdFrame, h]

/-- A reply being sent is on TXD with the characters of its frame. -/
theorem txdLevels_sending {s : State} {r : Reply} (h : s.sending = some r) (hr : s.resetAsserted = false) :
    txdLevels s = (replyFrame r).flatMap characterLevels := by
  simp [txdLevels, txdFrame, h, hr]

/-- A character's ten levels, one by one. -/
theorem characterLevels_eq (b : Byte) :
    characterLevels b =
      [false, b.getLsbD 0, b.getLsbD 1, b.getLsbD 2, b.getLsbD 3, b.getLsbD 4, b.getLsbD 5, b.getLsbD 6, b.getLsbD 7, true] :=
  rfl

/-- The receiver reads from a character's levels the byte it was sent as. -/
theorem characterEvent_characterLevels (b : Byte) : characterEvent (characterLevels b) = some (.byteReceived b) := by
  revert b; decide +kernel

/-- With neither a job in flight nor a recovery running SCL and SDA are released. -/
theorem busLines_quiet {s : State} (hf : s.inFlight = none) (hb : s.bus ≠ .recovering) : busLines s = .released := by
  simp [busLines, hf, hb]

/-- While a recovery runs, its own job in flight or none, the lines serve the recovery. -/
theorem busLines_recovering {s : State} (hr : s.resetAsserted = false) (hb : s.bus = .recovering)
    (hf : ∀ f, s.inFlight = some f → f.activity = .recovery) : busLines s = .recovery := by
  unfold busLines
  cases h : s.inFlight with
  | none => simp [hr, hb]
  | some f => simp [hr, flightLines, hf f h]

/-! ### The copy of a slot, and the hand-over -/

/-- A slot with an image copy is copied with its decoded values and its override list. -/
theorem copySlot_some {s : State} {n : SlotNo} {c : ImageCopy} (h : (s.slots.get n).image = some c) :
    copySlot s n =
      { bareCopy s n with decoded := some (decodeImage c.bytes), overrides := (s.slots.get n).overrides } := by
  simp [copySlot, h]

/-- A slot without an image copy is copied with its state and clash flag alone. -/
theorem copySlot_none {s : State} {n : SlotNo} (h : (s.slots.get n).image = none) : copySlot s n = bareCopy s n := by
  simp [copySlot, h]

/-- A WORKING Resolver takes no entry. -/
theorem handOver_working {s : State} {w : Work} (h : s.work = some w) : handOver s = s := by
  unfold handOver; split <;> simp_all

/-- With no entry QUEUED the hand-over changes nothing. -/
theorem handOver_none {s : State} (h : ∀ e ∈ s.entries, isQueued e = false) : handOver s = s := by
  have hq : s.entries.find? isQueued = none := by simpa using h
  unfold handOver; rw [hq]
  cases s.work <;> rfl

end Sys2Proof.Machine
end

