-- ==== Sys2Proof/Laws/Resolution.lean ====
section
/-! SUPPORT. The resolution's numbers, each said slot by slot: a proof cites these in place of the folds they are computed by. -/

namespace Sys2Proof.Machine

/-- A running maximum is at most a bound exactly when its start and every number are. -/
theorem foldl_max_le_iff {α : Type} (f : α → Int) (l : List α) (m x : Int) :
    l.foldl (fun m a => max m (f a)) m ≤ x ↔ m ≤ x ∧ ∀ a ∈ l, f a ≤ x := by
  induction l generalizing m with
  | nil => simp
  | cons b bs ih => simp [ih, and_assoc]

/-- A running minimum is at least a bound exactly when its start and every number are. -/
theorem le_foldl_min_iff {α : Type} (f : α → Int) (l : List α) (m x : Int) :
    x ≤ l.foldl (fun m a => min m (f a)) m ↔ x ≤ m ∧ ∀ a ∈ l, x ≤ f a := by
  induction l generalizing m with
  | nil => simp
  | cons b bs ih => simp [ih, and_assoc]

/-- The greatest number over a list that is not empty is at most a bound exactly when every one is. -/
theorem greatest_le_iff {α : Type} {l : List α} (f : α → Int) (x : Int) (h : l ≠ []) :
    greatest f l ≤ x ↔ ∀ a ∈ l, f a ≤ x := by
  cases l with
  | nil => exact absurd rfl h
  | cons a as => simp [greatest, foldl_max_le_iff]

/-- The least number over a list that is not empty is at least a bound exactly when every one is. -/
theorem le_least_iff {α : Type} {l : List α} (f : α → Int) (x : Int) (h : l ≠ []) :
    x ≤ least f l ↔ ∀ a ∈ l, x ≤ f a := by
  cases l with
  | nil => exact absurd rfl h
  | cons a as => simp [least, le_foldl_min_iff]

/-- The period window, slot by slot (R116). -/
theorem inWindow_iff {w : Work} (p : Nat) (h : w.copies ≠ []) :
    inWindow w p = true ↔ w.target.periodMin ≤ p ∧ p ≤ w.target.periodMax ∧
      ∀ c ∈ w.copies, copyTime .fper c ≤ p ∧ (p : Int) ≤ copyTime .sper c := by
  simp only [inWindow, windowLow, windowHigh, Bool.and_eq_true, decide_eq_true_eq, max_le_iff, le_min_iff,
    greatest_le_iff _ _ h, le_least_iff _ _ h, Nat.cast_le]
  constructor
  · rintro ⟨⟨h1, h2⟩, h3, h4⟩; exact ⟨h1, h3, fun c hc => ⟨h2 c hc, h4 c hc⟩⟩
  · rintro ⟨h1, h3, h⟩; exact ⟨⟨h1, fun c hc => (h c hc).1⟩, h3, fun c hc => (h c hc).2⟩

/-- The allowed latencies, slot by slot (R119). -/
theorem mem_allowedLatencies {w : Work} (l : Nat) (h : w.copies ≠ []) :
    l ∈ allowedLatencies w ↔ w.target.latencyMin ≤ l ∧ l ≤ w.target.latencyMax ∧ ∀ c ∈ w.copies, l ∈ copyLatencies c := by
  unfold allowedLatencies
  cases hc : w.copies with
  | nil => exact absurd hc h
  | cons a as =>
    simp only [List.mem_filter, Bool.and_eq_true, List.all_eq_true, decide_eq_true_eq, List.contains_iff_mem,
      List.mem_cons, forall_eq_or_imp]
    tauto

/-- The access condition, slot by slot (R119). -/
theorem coversAccess_iff {w : Work} (p l : Nat) (h : w.copies ≠ []) :
    coversAccess w p l = true ↔ ∀ c ∈ w.copies, effectiveOf .acc c - w.target.allowance ≤ ((l * p : Nat) : Int) := by
  simp only [coversAccess, decide_eq_true_eq, largestTime, sub_le_iff_le_add, greatest_le_iff _ _ h]

/-- A raw count covers its time and is the least from 1 on that does (R120). -/
theorem rawCount_le_iff (time : Int) (p j : Nat) (hp : 0 < p) :
    rawCount time p ≤ j ↔ 1 ≤ j ∧ time ≤ ((j * p : Nat) : Int) := by
  unfold rawCount
  split
  · next ht =>
    have h1 : (time.toNat + p - 1) / p ≤ j ↔ time.toNat ≤ j * p := by
      rw [← Nat.lt_succ_iff, Nat.div_lt_iff_lt_mul hp, Nat.succ_mul]; omega
    rw [h1]
    constructor
    · intro h; refine ⟨?_, by omega⟩
      rcases Nat.eq_zero_or_pos j with rfl | hj
      · simp at h; omega
      · exact hj
    · intro h; omega
  · next ht =>
    constructor
    · intro h; refine ⟨h, ?_⟩
      have : (0 : Int) ≤ ((j * p : Nat) : Int) := Int.natCast_nonneg _
      omega
    · exact fun h => h.1

/-- The clock count of a parameter is the one R120 calls for. -/
theorem isCount_clockCount {w : Work} {p : Nat} (floor : Nat) (q : Param) (h : w.copies ≠ []) (hp : 0 < p) :
    IsCount w p floor q (clockCount w p floor q) := by
  have key : ∀ j, clockCount w p floor q ≤ j ↔ 1 ≤ j ∧ floor ≤ j ∧
      ∀ c ∈ w.copies, effectiveOf q c - w.target.allowance ≤ ((j * p : Nat) : Int) := by
    intro j
    simp only [clockCount, max_le_iff, rawCount_le_iff _ _ _ hp, largestTime, sub_le_iff_le_add, greatest_le_iff _ _ h]
    tauto
  exact ⟨(key _).mp le_rfl, fun j hj => (key j).mpr hj⟩

/-- There is one such count. -/
theorem IsCount.unique {w : Work} {p floor : Nat} {q : Param} {j k : Nat} (hj : IsCount w p floor q j)
    (hk : IsCount w p floor q k) : j = k :=
  Nat.le_antisymm (hj.2 k hk.1) (hk.2 j hj.1)

/-- The counts after the fix-up are the ones R120 and R121 call for, and no others are. -/
theorem areCounts_iff {w : Work} {p : Nat} (c : Nine Nat) (h : w.copies ≠ []) (hp : 0 < p) :
    AreCounts w p c ↔ c = cycleFixUp (plainCounts w p) := by
  constructor
  · rintro ⟨h1, h2, h3, ⟨k, h4, h4'⟩, h5, h6, h7, h8, h9⟩
    have u : ∀ floor q j, IsCount w p floor q j → j = clockCount w p floor q :=
      fun floor q j hj => hj.unique (isCount_clockCount floor q h hp)
    obtain ⟨⟩ := c
    simp only [cycleFixUp, plainCounts, Nine.mk.injEq] at *
    rw [← u _ _ _ h1, ← u _ _ _ h2, ← u _ _ _ h3, ← u _ _ _ h4, ← u _ _ _ h5, ← u _ _ _ h6, ← u _ _ _ h7, ← u _ _ _ h8,
      ← u _ _ _ h9]
    exact ⟨rfl, rfl, rfl, h4', rfl, rfl, rfl, rfl, rfl⟩
  · rintro rfl
    have i : ∀ floor q, IsCount w p floor q (clockCount w p floor q) := fun floor q => isCount_clockCount floor q h hp
    exact ⟨i _ _, i _ _, i _ _, ⟨_, i _ _, rfl⟩, i _ _, i _ _, i _ _, i _ _, i _ _⟩

/-- The refresh interval is the one R122 calls for, and no other is. -/
theorem isInterval_iff {w : Work} {p : Nat} (r : Nat) (h : w.copies ≠ []) (hp : 0 < p) :
    IsInterval w p r ↔ r = refreshInterval w p := by
  have key : ∀ j : Nat, j ≤ refreshInterval w p ↔ ∀ c ∈ w.copies,
      j * p ≤ copyRefreshBase c * (if w.request.hot = true ∧ copyExtNative c = false then 25000 else 50000) := by
    intro j
    have hf : ∀ c, refreshTime w.request.hot c =
        ((copyRefreshBase c * (if w.request.hot = true ∧ copyExtNative c = false then 25000 else 50000) : Nat) : Int) := by
      intro c
      unfold refreshTime
      cases w.request.hot <;> cases copyExtNative c <;> simp
    have hn : 0 ≤ least (refreshTime w.request.hot) w.copies :=
      (le_least_iff _ _ h).mpr fun c _ => by rw [hf]; exact Int.natCast_nonneg _
    unfold refreshInterval
    rw [Nat.le_div_iff_mul_le hp, Int.le_toNat hn, le_least_iff _ _ h]
    simp only [hf, Nat.cast_le]
  constructor
  · rintro ⟨h1, h2⟩
    exact Nat.le_antisymm ((key r).mpr h1) (h2 _ ((key _).mp le_rfl))
  · rintro rfl
    exact ⟨(key _).mp le_rfl, fun j hj => (key j).mpr hj⟩

/-- A count and window are among the numeric budgets exactly when a slot states them. -/
theorem mem_numericBudgets {cs : List SlotCopy} {k v : Nat} :
    (k, v) ∈ numericBudgets cs ↔ ∃ c ∈ cs, copyBudget c = some (.numeric k v) := by
  simp only [numericBudgets, List.mem_filterMap]
  refine exists_congr fun c => and_congr_right fun _ => ?_
  cases h : copyBudget c with
  | none => simp
  | some b => cases b <;> simp

/-- The merged budget is the one R123 calls for. -/
theorem isBudget_mergedBudget (cs : List SlotCopy) : IsBudget cs (mergedBudget cs) := by
  unfold mergedBudget
  cases hk : ((numericBudgets cs).map Prod.fst).min? with
  | none =>
    have : numericBudgets cs = [] := by simpa using hk
    intro c hc k win hb
    have := mem_numericBudgets.mpr ⟨c, hc, hb⟩
    simp_all
  | some k =>
    cases hv : ((numericBudgets cs).map Prod.snd).max? with
    | none =>
      have : numericBudgets cs = [] := by simpa using hv
      simp [this] at hk
    | some v =>
      rw [List.min?_eq_some_iff] at hk
      rw [List.max?_eq_some_iff] at hv
      obtain ⟨⟨k', v'⟩, hm, rfl⟩ := List.mem_map.mp hk.1
      obtain ⟨⟨k'', v''⟩, hm', rfl⟩ := List.mem_map.mp hv.1
      refine ⟨?_, ?_, ?_⟩
      · obtain ⟨c, hc, hb⟩ := mem_numericBudgets.mp hm; exact ⟨c, hc, v', hb⟩
      · obtain ⟨c, hc, hb⟩ := mem_numericBudgets.mp hm'; exact ⟨c, hc, k'', hb⟩
      · intro c hc k1 v1 hb
        have := mem_numericBudgets.mpr ⟨c, hc, hb⟩
        exact ⟨hk.2 _ (List.mem_map_of_mem (f := Prod.fst) this), hv.2 _ (List.mem_map_of_mem (f := Prod.snd) this)⟩

end Sys2Proof.Machine
end

