-- ==== Sys2Proof/WellFormed.lean ====
section
/-! DEFINITION. Which command terms the outside can send: frames of the lengths of R151, transfers of the lengths of R74,
R76 and R79, recoveries as R80 describes them. -/

namespace Sys2Proof

/-- A payload has 0 to 120 bytes (R151). -/
def payloadFits (payload : List Byte) : Bool := payload.length ≤ 120

/-- The transfer of a SCAN segment or of a read-back has 16 bytes (R74, R79). -/
def pageLengthOk (bytes : List Byte) : Bool := bytes.length == 16

/-- The transfer of a MODULE READ has 1 to 64 bytes (R66, R76). -/
def readLengthOk (bytes : List Byte) : Bool := 1 ≤ bytes.length && bytes.length ≤ 64

/-- A recovery looks before each pulse, and no more once SDA is high: up to eight lows and a high, or nine lows (R80). -/
def looksOk (sdaLooks : List Bool) : Bool :=
  let lows := (sdaLooks.takeWhile fun high => !high).length
  if lows = 9 then sdaLooks.length == 9 else lows < 9 && sdaLooks.length == lows + 1

/-- The kind is none of the twenty-four request kinds (R157). -/
def kindUnknown (kind : Byte) : Bool := !Machine.requestKinds.contains kind

/-- A command term that an event outside can be. -/
def Instr.wellFormed : Instr → Bool
  | .lineReset => true
  | .lineResetRelease _ _ => true
  | .presenceLow _ => true
  | .presenceHigh _ => true
  | .settleExpiry _ => true
  | .segmentDone bytes => pageLengthOk bytes
  | .transactionFailed _ => true
  | .retryTimerExpiry => true
  | .stuckBus _ => true
  | .recoveryEnd sdaLooks _ _ => looksOk sdaLooks
  | .moduleReadDone bytes => readLengthOk bytes
  | .pageWriteDone => true
  | .pollTimerExpiry => true
  | .pollDone _ => true
  | .readBackDone bytes => pageLengthOk bytes
  | .userWriteAbandonEnd => true
  | .resolutionComplete => true
  | .characterDropped => true
  | .byteReceived _ => true
  | .gapExpiry => true
  | .unknownKind _ kind payload => kindUnknown kind && payloadFits payload
  | .info _ payload => payloadFits payload
  | .configure _ payload => payloadFits payload
  | .setTarget _ payload => payloadFits payload
  | .getTarget _ payload => payloadFits payload
  | .setLadder _ payload => payloadFits payload
  | .getLadder _ payload => payloadFits payload
  | .listSlots _ payload => payloadFits payload
  | .getSlot _ payload => payloadFits payload
  | .readImage _ payload => payloadFits payload
  | .readModule _ payload => payloadFits payload
  | .writeUser _ payload => payloadFits payload
  | .rescan _ payload => payloadFits payload
  | .setOverride _ payload => payloadFits payload
  | .clearOverrides _ payload => payloadFits payload
  | .resolve _ payload => payloadFits payload
  | .getProfile _ payload => payloadFits payload
  | .listProfiles _ payload => payloadFits payload
  | .applyProfile _ payload => payloadFits payload
  | .unapplyProfile _ payload => payloadFits payload
  | .dropProfile _ payload => payloadFits payload
  | .fetchNotices _ payload => payloadFits payload
  | .cancel _ payload => payloadFits payload
  | .busReset _ payload => payloadFits payload
  | .resetSession _ payload => payloadFits payload && payload != [1]
  | .resetFull _ payload => payloadFits payload && payload != [0]
  | .replySendStart => true
  | .replySent => true

end Sys2Proof
end

