-- ==== Sys2Proof/Tests/Slice0.lean ====
section
/-! SUPPORT. Tests: ill-formed terms refused, the manual's worked computations, and for each statement with hypotheses a
concrete state and operands that meet them. -/

set_option Elab.async false

namespace Sys2Proof.Tests

open Machine

/-! ### Small states -/

/-- Out of reset, every slot vacant. -/
def up : State := { State.reset with resetAsserted := false }

/-- The state after a command. -/
def after (c : Instr) (s : State) : State :=
  match exec c s with
  | .next t => t
  | .fault _ => s
  | .refused _ => s

/-- The state after some commands. -/
def afterAll (cs : List Instr) (s : State) : State := cs.foldl (fun t c => after c t) s

/-- A present slot's record without an image. -/
def module (st : SlotState) : Slot := { slotReset with state := st, present := true }

/-- Slot 1 with a record. -/
def withOne (r : Slot) (s : State) : State := { s with slots := s.slots.set 1 r }

/-- A job in flight on slot 1 by its work. -/
def flight (w : JobWork) (tags : List Byte) : InFlight := launch { work := w, presence := false, tags := tags } false

/-- A job in flight on a BUSY bus. -/
def working (f : InFlight) : State := { up with bus := .busy, inFlight := some f }

/-- A copy of an image of zeros. -/
def zeroCopy : ImageCopy := { bytes := List.replicate 256 0, marks := List.replicate 16 true }

/-! ### The worked modules of the manual's resolution example -/

/-- An image from its pieces, with its check bytes. -/
def stamped (img : List Byte) : List Byte := overlay img 0xB0 (le2 (computedCheck img))

/-- A PLAIN module of kind A with the given header bytes from 0x06 to 0x2C, rank swap and serial number. -/
def plainImage (times : List Byte) (swap serial : Byte) : List Byte :=
  stamped (overlay (overlay (overlay (overlay (overlay (overlay (List.replicate 256 0) 0 [0x80, 0x10, 0x41, 0, 1, 1])
    0x06 times) 0x52 [swap]) 0x90 [0x01, 0x22, 0x05, 0x23, 0x17]) 0x95 [serial, 2, 3, 4]) 0x99 (List.replicate 20 0x41))

/-- The first module: latencies 6 to 11, EXT_RANGE, a numeric budget. -/
def imageA : List Byte :=
  plainImage [4, 0, 244, 12, 0, 6, 6, 7, 8, 9, 10, 11, 0, 0, 55, 0, 0, 55, 0, 0, 55, 0, 0, 140, 0, 195, 0, 0, 0x10, 4,
    30, 30, 60, 160, 0, 156, 0, 1, 0x15] 0 7

/-- The second module: latencies 5, 6, 7, 9, 11, 13, EXT_RANGE and EXT_NATIVE. -/
def imageB : List Byte :=
  plainImage [4, 0, 0, 12, 0, 6, 5, 6, 7, 9, 11, 13, 0, 0, 54, 0, 8, 56, 0, 0, 53, 0, 0, 144, 0, 198, 0, 246, 0x10, 4,
    30, 30, 60, 150, 0, 156, 0, 3, 0x0F] 1 8

/-- A BUFFERED module: a good buffer maker and kind, drive levels 3, 0, 1 and 2 from the lowest bits on. -/
def imageC : List Byte := stamped (overlay (overlay imageA 3 [1]) 0x52 [0x01, 0x22, 0, 1, 0x93])

/-! ### Ill-formed terms are refused -/

theorem test_refuses_payload_of_121_bytes : (Instr.info 1 (List.replicate 121 0)).wellFormed = false := by decide
theorem test_accepts_payload_of_120_bytes : (Instr.info 1 (List.replicate 120 0)).wellFormed = true := by decide
theorem test_refuses_segment_of_15_bytes : (Instr.segmentDone (List.replicate 15 0)).wellFormed = false := by decide
theorem test_refuses_read_back_of_17_bytes : (Instr.readBackDone (List.replicate 17 0)).wellFormed = false := by decide
theorem test_refuses_module_read_of_no_bytes : (Instr.moduleReadDone []).wellFormed = false := by decide
theorem test_refuses_module_read_of_65_bytes : (Instr.moduleReadDone (List.replicate 65 0)).wellFormed = false := by decide
theorem test_refuses_look_after_high : (Instr.recoveryEnd [true, true] true true).wellFormed = false := by decide
theorem test_refuses_tenth_look : (Instr.recoveryEnd (List.replicate 10 false) true true).wellFormed = false := by decide
theorem test_refuses_request_kind_as_unknown : (Instr.unknownKind 1 0x33 []).wellFormed = false := by decide
theorem test_refuses_full_scope_as_session : (Instr.resetSession 1 [1]).wellFormed = false := by decide
theorem test_refuses_session_scope_as_full : (Instr.resetFull 1 [0]).wellFormed = false := by decide

/-! ### Worked computations -/

theorem test_check_of_one_zero_byte : crc [0x00] = 0xFD02 := by decide +kernel
theorem test_check_bytes_low_first :
    checkOk [0x00, 0x02, 0xFD] = true ∧ checkOk [0x00, 0xFD, 0x02] = false := by decide +kernel
set_option maxRecDepth 20000 in
theorem test_imageA_valid :
    (validate imageA).classification = .valid ∧ (validate imageA).faults = [] ∧ (validate imageA).more = false := by
  decide +kernel
set_option maxRecDepth 20000 in
theorem test_imageB_valid : (validate imageB).classification = .valid ∧ (validate imageB).faults = [] := by decide +kernel
set_option maxRecDepth 20000 in
theorem test_wrong_check_suspect :
    (validate (imageA.set 0xB0 0x5A)).classification = .suspect ∧
      (validate (imageA.set 0xB0 0x5A)).faults = [.crcMismatch] := by
  decide +kernel
set_option maxRecDepth 20000 in
theorem test_kind_unknown_unusable :
    (validate (imageA.set 2 9)).classification = .unusable ∧
      (validate (imageA.set 2 9)).faults = [.crcMismatch, .kindUnknown] := by
  decide +kernel

set_option maxRecDepth 20000 in
theorem test_imageC_drive_levels :
    (validate imageC).faults = [.driveLevel .command] ∧
      (decodeImage imageC).output =
        some (.drives { command := none, control := some .light, clockA := some .moderate, clockB := some .strong }) := by
  decide +kernel

/-- The working record of a resolution of the two worked modules in slots 0 and 1. -/
def workedWork : Work :=
  { request := { slots := [0, 1], mode := .fastest, hot := false, acceptSuspect := false }
    copies :=
      [{ slot := 0, state := .valid, clash := false, decoded := some (decodeImage imageA), overrides := [] },
        { slot := 1, state := .valid, clash := false, decoded := some (decodeImage imageB), overrides := [] }]
    target := targetDefault, ladder := some ladderDefault }

/-- The result the manual works out. -/
def workedResult : Profile :=
  { period := 1250, latency := 11
    counts := { opn := 12, cls := 11, hld := 29, cyc := 40, rfr := 208, trn := 6, rcl := 6, wrc := 12, win := 32 }
    refresh := 6240, budget := .limited 500000 2000, unknown := false, suspect := false, cls := .plain
    outputs := [(0, .rankSwap false), (1, .rankSwap true)] }

theorem test_worked_resolution : resolveWork workedWork = .result workedResult := by decide +kernel

theorem test_worked_hot :
    resolveWork { workedWork with request := { workedWork.request with hot := true } } =
      .result { workedResult with refresh := 3120 } := by
  decide +kernel

theorem test_worked_fixed_900 :
    resolveWork { workedWork with request := { workedWork.request with mode := .fixed 900 } } =
      .failure { reason := .periodOutOfRange, slot := none, param := none } := by
  decide +kernel

theorem test_worked_fixed_1000 :
    resolveWork { workedWork with request := { workedWork.request with mode := .fixed 1000 } } =
      .failure { reason := .noLatency, slot := none, param := none } := by
  decide +kernel

/-! ### Commands, one step each -/

theorem test_reset_then_insertion :
    let s := afterAll [.lineResetRelease false ((State.reset.pres).set 1 false), .settleExpiry 1] State.reset
    s.slots.get 1 = module .reading ∧ s.bus = .busy ∧ s.inFlight = some (launch { work := .scan 1, presence := true, tags := [] } false) ∧
      s.notices = [{ seq := 0, body := .slotInserted 1 }] ∧ s.alertN = false := by
  decide +kernel

theorem test_release_only_while_asserted : after (.lineResetRelease true (State.reset.pres)) up = up := by decide +kernel

theorem test_line_reset_keeps_the_queue : (after .lineReset { up with pending := [.replySent] }).pending = [.replySent] := by
  decide +kernel

theorem test_settle_expiry_needs_the_timer : after (.settleExpiry 1) up = up := by decide +kernel

theorem test_info_reply :
    (after (.info 5 []) up).tx =
      [{ tag := 5, kind := 1, status := .ok, payload := [8, 0x0D, 1, 8, 12, 6, 12, 16, 4, 40, 0, 1, 0, 0] }] := by
  decide +kernel

theorem test_info_frame_byte_by_byte :
    (match feedBytes (frame [5, 0x01]) up with
      | .next t => some t.tx
      | .fault _ => none
      | .refused _ => none) = some (after (.info 5 []) up).tx := by
  decide +kernel

theorem test_unknown_kind : (after (.unknownKind 5 0x81 []) up).tx = [{ tag := 5, kind := 0x81, status := .unknownKind, payload := [] }] := by
  decide +kernel

theorem test_resolve_of_vacant_slot_fails_not_ready :
    let s := afterAll [.resolve 9 [1, 0, 0, 0, 0, 0, 0], .resolutionComplete] up
    s.tx = [{ tag := 9, kind := 0x20, status := .failed, payload := [1, 1, 0, 0] }] ∧ s.inbox = [] ∧ s.work = none := by
  decide +kernel

theorem test_full_reset_after_its_reply :
    (afterAll [.configure 1 [50, 1, 0], .resetFull 2 [1], .replySendStart, .replySent, .replySendStart, .replySent] up) = up := by
  decide +kernel

theorem test_closing_takes_no_byte : after (.byteReceived 0xB6) { up with closing := true } = { up with closing := true } := by
  decide +kernel

theorem test_hand_over_leaves_overrides_of_a_slot_without_image :
    (copySlot (withOne { module .reading with overrides := [{ param := .acc, value := 7 }] } up) 1).overrides = [] := by
  decide +kernel

theorem test_sideband_lines :
    busLines State.reset = .released ∧ busLines (working (flight (.scan 1) [5])) = .transaction (.read 1 0 16) ∧
      busLines { up with bus := .recovering } = .recovery := by
  decide +kernel

theorem test_character_of_the_start_byte :
    characterLevels 0xB6 = [false, false, true, true, false, true, true, false, true, true] ∧
      characterEvent (characterLevels 0xB6) = some (.byteReceived 0xB6) ∧
      characterEvent (List.replicate 10 false) = some .characterDropped ∧ characterEvent (List.replicate 10 true) = none := by
  decide +kernel

theorem test_txd_of_a_reply :
    (txdLevels (after .replySendStart (after (.info 5 []) up))).length = 10 * 21 ∧ txdLevels up = [] := by decide +kernel

theorem test_poll_not_acknowledged :
    unacknowledgedAt 1 (.poll 7) = [.start, .send 0x5F, .stop] ∧
      transactionBytes (.pageWrite 0 208 [1, 2]) = [0x50, 0xD0, 1, 2] := by
  decide +kernel

theorem test_stuck_bus_needs_a_job : after (.stuckBus false) up = up := by decide +kernel

theorem test_no_word_spells_a_command : decodeTableWord 8 0 = none ∧ State.reset.withFetchWord 8 0 = State.reset := by
  decide +kernel

/-! ### What the statements assume holds somewhere -/

theorem test_taken_up (tag kind : Byte) (h : tag ≠ 0) : Taken up tag kind :=
  ⟨rfl, rfl, by decide, h, (fun _ ho => nomatch ho), Or.inl (by decide)⟩

/-- A request of the slots 0 and 1. -/
def request : ResolveRequest := { slots := [0, 1], mode := .fastest, hot := false, acceptSuspect := false }

/-- A snapshot of the slots 0 and 1 as they stand at reset. -/
def snapshot : Snapshot := { gens := [(0, 0), (1, 0)], target := 0 }

/-- An entry by its handle and state. -/
def entry (h : Byte) (st : EntryState) : Entry :=
  { handle := h, creation := 0, applied := false, request := request, state := st }

/-- Entries in the table, the Resolver as given. -/
def profiles (es : List Entry) (w : Option Work) (s : State) : State := { s with entries := es, work := w, nextHandle := 9 }

/-- A module in slot 1, a job in flight and a waiting job on it, and their requests. -/
def siteOf (f : InFlight) : State :=
  { up with
    pres := up.pres.set 1 false
    slots := up.slots.set 1 { module .unreadable with cause := some .noResponse }
    bus := .busy, inFlight := some f
    jobs := [{ work := .moduleRead 1 192 64, presence := false, tags := [6] }]
    inbox := (f.job.tags.map fun g => { tag := g, kind := 0x15, claim := .busJob }) ++
      [{ tag := 6, kind := 0x13, claim := .busJob }] }

/-- A SCAN with its last segment on the bus. -/
def lastSegment : InFlight := { flight (.scan 1) [5] with bytesRead := List.replicate 240 0 }

/-- A USER WRITE of the last byte of the user area. -/
def lastWrite : InFlight := flight (.userWrite 1 255 [0xAA]) [5]

/-- The same site with a resolution under way. -/
def resolving (st : EntryState) (w : Work) : State :=
  let s := profiles [entry 3 st] (some w) (siteOf lastSegment)
  { s with inbox := s.inbox ++ [{ tag := 8, kind := 0x20, claim := .profile }] }

theorem test_inv_up : Inv up := @of_decide_eq_true _ (decInv up) (by decide +kernel)
theorem test_inv_scan : Inv (siteOf lastSegment) := @of_decide_eq_true _ (decInv _) (by decide +kernel)
theorem test_inv_write : Inv (siteOf lastWrite) := @of_decide_eq_true _ (decInv _) (by decide +kernel)
theorem test_inv_resolving : Inv (resolving (.building 8 snapshot) workedWork) :=
  @of_decide_eq_true _ (decInv _) (by decide +kernel)

/-! One theorem for each statement with hypotheses, in the order of the statements. Statements without hypotheses
(`NoCommandStops`, `SettingsLayouts`, `ResetKeepsInv`) need none. -/

theorem test_meets_StepRunsFrontCommand :
    (∃ c rest s, (s : State).pending = c :: rest ∧ (c : Instr) = .replySent) ∧ ∃ s : State, s.pending = [] :=
  ⟨⟨.replySent, [.lineReset], { up with pending := [.replySent, .lineReset] }, rfl, rfl⟩, up, rfl⟩

theorem test_meets_LineResetAndRelease :
    State.reset.resetAsserted = true ∧ ResetInv State.reset ∧ (after (.lineResetRelease true ((State.reset.pres).set 7 false)) State.reset).slots.get 7 =
      { slotReset with state := .settling, settle := some 40 } :=
  ⟨rfl, fun _ => rfl, by decide +kernel⟩

/-- Two images in which every byte counts: a PLAIN one, and a BUFFERED one with an unknown drive level of the commands. -/
theorem test_meets_ImageFaultsByTheBytes : imageA.length = 256 ∧ imageC.length = 256 := by decide +kernel

theorem test_meets_PresenceLowSettles :
    up.resetAsserted = false ∧ (up.slots.get 1).state = .empty ∧ (withOne (module .valid) up).resetAsserted = false ∧
      ((withOne (module .valid) up).slots.get 1).state ≠ .empty := by
  decide +kernel

/-- Slot 1 in SETTLING. -/
def settling : State := withOne { slotReset with state := .settling, settle := some 250 } up

/-- The same on a FAULTED bus. -/
def settlingFaulted : State := { settling with bus := .faulted }

theorem test_meets_SettlingEnds :
    settling.resetAsserted = false ∧ (settling.slots.get 1).state = .settling ∧ (up.slots.get 1).state = .empty ∧
      settling.bus ≠ .faulted ∧
      (settlingFaulted.slots.get 1).state = .settling ∧ settlingFaulted.bus = .faulted := by
  decide +kernel

theorem test_meets_RemovalEmptiesTheSlot :
    ∀ st ∈ [SlotState.reading, .valid, .suspect, .unusable, .unreadable],
      (withOne (module st) up).resetAsserted = false ∧ occupied ((withOne (module st) up).slots.get 1).state = true := by
  decide +kernel

theorem test_meets_RemovalEndsTheSlotsJobs :
    Inv (siteOf lastSegment) ∧ (siteOf lastSegment).resetAsserted = false ∧
      occupied ((siteOf lastSegment).slots.get 1).state = true ∧ Inv (siteOf lastWrite) ∧
      occupied ((siteOf lastWrite).slots.get 1).state = true :=
  ⟨test_inv_scan, rfl, rfl, test_inv_write, rfl⟩

/-- Some ordinary notices. -/
def ordinary (k : Nat) : List Notice := List.replicate k { seq := 0, body := .busRecovered }

/-- A full queue with a NOTICES_LOST record. -/
def lossesCounted (k : Nat) : State :=
  { up with notices := ordinary 14 ++ ({ seq := 3, body := .noticesLost k } : Notice) :: ordinary 1 }

theorem test_meets_NoticeIntake :
    isLost { seq := 0, body := .busFaulted } = false ∧ ordinaryCount { up with notices := ordinary 14 }.notices < 15 ∧
      ordinaryCount { up with notices := ordinary 15 }.notices = 15 ∧
      (∀ x ∈ { up with notices := ordinary 15 }.notices, isLost x = false) ∧
      (∀ k ∈ [254, 255],
        (lossesCounted k).notices = ordinary 14 ++ { seq := 3, body := .noticesLost k } :: ordinary 1) ∧
      (∀ x ∈ ordinary 14 ++ ordinary 1, isLost x = false) ∧
      ordinaryCount (lossesCounted 254).notices = 15 ∧ ordinaryCount (lossesCounted 255).notices = 15 := by
  decide +kernel

/-- Waiting jobs: a MODULE READ before a SCAN of slot 1. -/
def twoJobs : List Job :=
  [{ work := .moduleRead 1 0 64, presence := false, tags := [6] }, { work := .scan 1, presence := true, tags := [7] }]

theorem test_meets_JobQueueOrder :
    up.jobs = [] ∧ { up with jobs := twoJobs }.jobs = twoJobs.head (by decide) :: twoJobs.tail ∧
      (twoJobs.head (by decide)).work ≠ .recover ∧
      (∃ j : Job, j.work = .recover ∧ { up with jobs := [j] }.jobs = j :: []) ∧
      { up with jobs := twoJobs }.jobs = [twoJobs.head (by decide)] ++ { work := .scan 1, presence := true, tags := [7] } :: [] ∧
      (∀ x ∈ [twoJobs.head (by decide)], x.work ≠ .scan 1) ∧ ∀ x ∈ up.jobs, x.work ≠ .scan 1 :=
  ⟨rfl, rfl, by decide, ⟨{ work := .recover, presence := false, tags := [] }, rfl, rfl⟩, rfl, by decide, fun _ h => nomatch h⟩

theorem test_meets_ReadsOfTheModule :
    (∃ f : InFlight, (working f).inFlight = some f ∧ f.job.work = .scan 1 ∧ f.activity = .transaction ∧ f.stopMark = false ∧
      (List.replicate 16 (0 : Byte)).length = 16 ∧ f.bytesRead.length = 224) ∧
    ∃ f : InFlight, (working f).inFlight = some f ∧ f.job.work = .moduleRead 1 192 64 ∧ f.activity = .transaction ∧
      f.stopMark = false ∧ (List.replicate 64 (0 : Byte)).length = 64 :=
  ⟨⟨{ flight (.scan 1) [5] with bytesRead := List.replicate 224 0 }, rfl, rfl, rfl, rfl, rfl, by decide +kernel⟩,
    ⟨flight (.moduleRead 1 192 64) [5], rfl, rfl, rfl, rfl, by decide +kernel⟩⟩

theorem test_meets_LastSegmentCompletesTheScan :
    (working lastSegment).inFlight = some lastSegment ∧ lastSegment.job.work = .scan 1 ∧
      lastSegment.activity = .transaction ∧ lastSegment.stopMark = false ∧ (List.replicate 16 (0 : Byte)).length = 16 ∧
      lastSegment.bytesRead.length = 240 := by
  decide +kernel

theorem test_meets_CompletedScanReports :
    Inv (siteOf lastSegment) ∧ (siteOf lastSegment).inFlight = some lastSegment ∧ lastSegment.job.work = .scan 1 ∧
      lastSegment.activity = .transaction ∧ lastSegment.stopMark = false ∧ (List.replicate 16 (0 : Byte)).length = 16 ∧
      lastSegment.bytesRead.length = 240 :=
  ⟨test_inv_scan, rfl, rfl, rfl, rfl, rfl, by decide +kernel⟩

/-- A marked job in flight. -/
def marked (w : JobWork) : InFlight := { flight w [5] with stopMark := true }

theorem test_meets_MarkedJobEndsStopped :
    (working (marked (.scan 1))).inFlight = some (marked (.scan 1)) ∧ (marked (.scan 1)).stopMark = true ∧
      (marked (.scan 1)).activity = .transaction ∧ (marked (.moduleRead 1 0 1)).stopMark = true ∧
      (marked (.moduleRead 1 0 1)).activity = .transaction ∧ [(0 : Byte)].length = 1 := by
  decide +kernel

theorem test_meets_RetriesAndNoResponse :
    ∀ w ∈ [JobWork.scan 1, .moduleRead 1 0 1, .userWrite 1 208 [1]],
      (working { flight w [5] with failed := 2 }).inFlight = some { flight w [5] with failed := 2 } ∧
      { flight w [5] with failed := 2 }.stopMark = false ∧ { flight w [5] with failed := 2 }.activity = .transaction ∧
      { flight w [5] with failed := 2 }.failed < 3 ∧ 3 ≤ { flight w [5] with failed := 3 }.failed ∧
      { flight w [5] with failed := 3 }.activity = .transaction ∧
      { flight w [5] with activity := .retryWait }.activity = .retryWait := by
  decide +kernel

theorem test_meets_FailedScanUnreadable : ClashInv (siteOf lastSegment) := test_inv_scan.clash

theorem test_meets_StuckBusAndRecovery :
    (∀ w ∈ [JobWork.scan 1, .moduleRead 1 0 1, .userWrite 1 208 [1]],
      (working (flight w [5])).inFlight = some (flight w [5]) ∧ (working (flight w [5])).bus = .busy ∧
        (flight w [5]).stopMark = false) ∧
      (working (marked (.scan 1))).bus = .busy ∧ (marked (.scan 1)).stopMark = true ∧
      { up with bus := .recovering }.bus = .recovering ∧ { up with bus := .recovering }.inFlight = none ∧
      (∀ b ∈ [true, false],
        { up with bus := .recovering, inFlight := some (launch { work := .recover, presence := false, tags := [5] } b) }.inFlight =
          some (launch { work := .recover, presence := false, tags := [5] } b) ∧
        (launch { work := .recover, presence := false, tags := [5] } b).fromFaulted = b) := by
  decide +kernel

/-- The site with a presence scan waiting instead. -/
def scanWaits : State :=
  { siteOf lastSegment with jobs := [{ work := .scan 1, presence := true, tags := [6] }] }

theorem test_meets_FaultedEntryFailsTheQueue :
    (LinkInv scanWaits ∧ (scanWaits.jobs.flatMap Job.tags).Nodup ∧
      (∀ g ∈ scanWaits.jobs.flatMap Job.tags, g ∈ scanWaits.inbox.map Outstanding.tag) ∧
      ∃ j ∈ scanWaits.jobs, j.work = .scan 1 ∧ j.presence = true) ∧
    LinkInv (siteOf lastSegment) ∧ ((siteOf lastSegment).jobs.flatMap Job.tags).Nodup ∧
      (∀ g ∈ (siteOf lastSegment).jobs.flatMap Job.tags, g ∈ (siteOf lastSegment).inbox.map Outstanding.tag) ∧
      ¬ ∃ j ∈ (siteOf lastSegment).jobs, j.work = .scan 1 ∧ j.presence = true :=
  ⟨⟨test_inv_scan.link, by decide +kernel, by decide +kernel, by decide +kernel⟩,
    test_inv_scan.link, by decide +kernel, by decide +kernel, by decide +kernel⟩

theorem test_meets_RecoveryRescansLostSlots :
    let s := withOne { module .unreadable with cause := some .bus } up
    ((s.slots.get 1).state = .unreadable ∧ (s.slots.get 1).cause = some .bus) ∧
      ¬ ((s.slots.get 2).state = .unreadable ∧ (s.slots.get 2).cause = some .bus) := by
  decide +kernel

/-- A USER WRITE of four bytes in a phase. -/
def writing (ph : WritePhase) (a : Activity) (polls : Nat) : InFlight :=
  { flight (.userWrite 1 252 [1, 2, 3, 4]) [5] with phase := ph, activity := a, polls := polls }

theorem test_meets_UserWritePhases :
    (working (writing .writing .transaction 0)).inFlight = some (writing .writing .transaction 0) ∧
      (writing .writing .transaction 0).job.work = .userWrite 1 252 [1, 2, 3, 4] ∧
      (writing .writing .transaction 0).activity = .transaction ∧ (writing .writing .transaction 0).phase = .writing ∧
      (writing .polling .pollWait 0).activity = .pollWait ∧ (writing .polling .poll 9).activity = .poll ∧
      (writing .polling .poll 9).polls < 10 ∧ 10 ≤ (writing .polling .poll 10).polls ∧
      (writing .writing .stopCondition 0).activity = .stopCondition := by
  decide +kernel

theorem test_meets_ReadBackDecides :
    (working (writing .readBack .transaction 1)).inFlight = some (writing .readBack .transaction 1) ∧
      (writing .readBack .transaction 1).job.work = .userWrite 1 252 [1, 2, 3, 4] ∧
      (writing .readBack .transaction 1).activity = .transaction ∧ (writing .readBack .transaction 1).phase = .readBack ∧
      workOk (.userWrite 1 252 [1, 2, 3, 4]) = true ∧ (List.replicate 12 (0 : Byte) ++ [1, 2, 3, 4]).length = 16 ∧
      (∀ i, i < [(1 : Byte), 2, 3, 4].length →
        [(1 : Byte), 2, 3, 4][i]? = (List.replicate 12 (0 : Byte) ++ [1, 2, 3, 4])[252 % 16 + i]?) ∧
      (List.replicate 16 (0 : Byte)).length = 16 ∧
      (¬ ∀ i, i < [(1 : Byte), 2, 3, 4].length → [(1 : Byte), 2, 3, 4][i]? = (List.replicate 16 (0 : Byte))[252 % 16 + i]?) ∧
      zeroCopy.bytes.length = 256 ∧ zeroCopy.marks.length = 16 ∧ (zeroCopy.marks.take 13).all id = true := by
  decide +kernel

theorem test_meets_WritesStayInTheUserArea :
    Inv (siteOf lastWrite) ∧ (siteOf lastWrite).inFlight = some lastWrite ∧
      busTransaction lastWrite = some (.pageWrite 1 255 [0xAA]) ∧
      transactionSymbols (.read 0 0 1) =
        [.start, .send 0x50] ++ .send 0x00 :: [.start, .send 0x51, .take false, .stop] :=
  ⟨test_inv_write, rfl, rfl, by decide +kernel⟩

set_option maxRecDepth 20000 in
theorem test_meets_ClassificationByFamily :
    ((imageFaults imageA).all fun x => faultFamily x == .identity) = true ∧
      (imageFaults (imageA.set 0xB0 0x5A)).contains .crcMismatch = true ∧
      ((imageFaults (imageA.set 2 9)).any fun x => faultFamily x == .content) = true ∧
      8 < (imageFaults (List.replicate 256 0xFF)).length := by
  decide +kernel

theorem test_meets_ResultMeetsEveryModule :
    workedWork.copies ≠ [] ∧ resolveWork workedWork = .result workedResult ∧ 0 < workedResult.period ∧
      (∀ c ∈ workedWork.copies, ((c.decoded.bind Decoded.output).isSome) = true) := by
  decide +kernel

/-- The worked record with a FIXED request. -/
def fixedWork (p : Nat) : Work := { workedWork with request := { workedWork.request with mode := .fixed p } }

/-- The first module's copy with overrides of OPN and ACC. -/
def overriddenCopy (v : Nat) : SlotCopy :=
  { slot := 0, state := .valid, clash := false, decoded := some (decodeImage imageA)
    overrides := [{ param := .opn, value := 9 }, { param := .acc, value := v }] }

theorem test_meets_FastestIsTheShortestCandidate :
    workedWork.request.mode = .fastest ∧ workedWork.ladder = some ladderDefault ∧ strictlyAscending ladderDefault = true ∧
      choosePeriod workedWork = .ok (1250, 11) ∧
      choosePeriod { workedWork with target := { targetDefault with periodMax := 1200 } } = .error .noLatency ∧
      choosePeriod { workedWork with target := { targetDefault with periodMin := 2600 } } = .error .noPeriod ∧
      workedWork.copies ≠ [] ∧ (fixedWork 1250).request.mode = .fixed 1250 ∧
      choosePeriod (fixedWork 1250) = .ok (1250, 11) ∧ choosePeriod (fixedWork 900) = .error .periodOutOfRange ∧
      choosePeriod (fixedWork 1000) = .error .noLatency ∧
      (∀ o ∈ (overriddenCopy 7).overrides, o.param ≠ .win) ∧
      ((overriddenCopy 7).overrides = [{ param := .opn, value := 9 }] ++ { param := .acc, value := 7 } :: [] ∧
        ∀ o ∈ [({ param := .opn, value := 9 } : Override)], o.param ≠ .acc) ∧
      (overriddenCopy 7).decoded = some (decodeImage imageA) ∧ ((decodeImage imageA).times).isSome = true :=
  ⟨rfl, rfl, by decide, by rfl, by rfl, by rfl, by decide, rfl, by rfl, by rfl, by rfl, by decide, ⟨rfl, by decide⟩, rfl,
    by decide +kernel⟩

/-- A working record whose slot is not ready. -/
def unreadyWork : Work :=
  { workedWork with copies := [{ slot := 0, state := .reading, clash := false, decoded := none, overrides := [] }] }

theorem test_meets_CompletionIsJudged :
    (Inv (resolving (.building 8 snapshot) workedWork) ∧
      (resolving (.building 8 snapshot) workedWork).work = some workedWork ∧
      entry 3 (.building 8 snapshot) ∈ (resolving (.building 8 snapshot) workedWork).entries ∧
      (entry 3 (.building 8 snapshot)).state = .building 8 snapshot ∧ resolveWork workedWork = .result workedResult ∧
      ((∀ g ∈ snapshot.gens, ((resolving (.building 8 snapshot) workedWork).slots.get g.1).gen = g.2) ∧
        snapshot.target = (resolving (.building 8 snapshot) workedWork).targetGen)) ∧
    (Inv (resolving (.building 8 { snapshot with target := 1 }) workedWork) ∧
      ¬ (1 : Word16) = (resolving (.building 8 { snapshot with target := 1 }) workedWork).targetGen) ∧
    Inv (resolving (.building 8 snapshot) unreadyWork) ∧
      resolveWork unreadyWork = .failure { reason := .notReady, slot := some 0, param := none } :=
  ⟨⟨test_inv_resolving, rfl, List.mem_singleton.mpr rfl, rfl, test_worked_resolution,
      (fun g hg => by
        simp only [snapshot, List.mem_cons, List.not_mem_nil, or_false] at hg
        rcases hg with rfl | rfl <;> rfl), rfl⟩,
    ⟨@of_decide_eq_true _ (decInv _) (by decide +kernel), by decide +kernel⟩,
    @of_decide_eq_true _ (decInv _) (by decide +kernel), by decide +kernel⟩

theorem test_meets_HandOverTakesTheOldest :
    let es := [entry 2 (.stale snapshot workedResult)] ++ entry 3 (.queued 8) :: [entry 4 (.queued 9)]
    let s := profiles es none up
    s.work = none ∧ s.entries = [entry 2 (.stale snapshot workedResult)] ++ entry 3 (.queued 8) :: [entry 4 (.queued 9)] ∧
      (∀ x ∈ [entry 2 (.stale snapshot workedResult)], isQueued x = false) ∧ (entry 3 (.queued 8)).state = .queued 8 ∧
      (s.entries.map Entry.handle).Nodup ∧ (profiles es (some workedWork) up).work ≠ none ∧
      ∀ x ∈ up.entries, isQueued x = false := by
  decide +kernel

/-- A number of requests outstanding. -/
def outstanding (k : Nat) : State :=
  { up with inbox := (List.range k).map fun i => { tag := byte (200 + i), kind := 0x13, claim := .busJob } }

/-- A reply. -/
def reply : Reply := { tag := 1, kind := 1, status := .ok, payload := [] }

theorem test_meets_AcceptanceInOrder :
    up.resetAsserted = false ∧ up.closing = false ∧
      8 ≤ { outstanding 4 with tx := List.replicate 4 reply }.tx.length + (outstanding 4).inbox.length ∧
      { outstanding 4 with tx := List.replicate 3 reply }.tx.length + (outstanding 4).inbox.length < 8 ∧
      (∃ o ∈ (outstanding 4).inbox, o.tag = 200) ∧ (∀ o ∈ (outstanding 4).inbox, o.tag ≠ 5) ∧
      4 ≤ (outstanding 4).inbox.length ∧ requestKinds.contains 0x34 = false ∧ requestKinds.contains 0x01 = true ∧
      { up with closing := true }.closing = true ∧ State.reset.resetAsserted = true := by
  decide +kernel

theorem test_meets_DecodedValuesByTheBytes : imageB.length = 256 ∧ imageC.length = 256 := by decide +kernel

theorem test_meets_FramedBytesMakeTheFrame :
    (List.replicate 120 (0xB6 : Byte)).length ≤ 120 ∧ up.resetAsserted = false ∧ up.closing = false ∧
      up.rx = { phase := .hunt, expected := 0, buffer := [], gapRunning := false } := by
  decide +kernel

/-- A receiver in a situation. -/
def receiving (ph : RxPhase) (expected : Nat) (buffer : List Byte) : State :=
  { up with rx := { phase := ph, expected := expected, buffer := buffer, gapRunning := true } }

theorem test_meets_ReceiverPhases :
    (receiving .length 0 []).rx.gapRunning = true ∧ (receiving .length 0 []).resetAsserted = false ∧
      (receiving .length 0 []).closing = false ∧ up.rx.phase = .hunt ∧ (receiving .length 0 []).rx.phase = .length ∧
      (2 ≤ (2 : Byte).toNat ∧ (122 : Byte).toNat ≤ 122) ∧ ((1 : Byte).toNat < 2 ∧ 122 < (123 : Byte).toNat) ∧
      (receiving .body 2 [2]).rx.phase = .body ∧ 2 ≤ (receiving .body 2 [2]).rx.expected ∧
      (receiving .body 1 [2, 5]).rx.phase = .body ∧ (receiving .body 1 [2, 5]).rx.expected = 1 ∧
      (receiving .check 2 [2, 5, 1]).rx.phase = .check ∧ (receiving .check 2 [2, 5, 1]).rx.expected = 2 ∧
      (receiving .check 1 [0, 2]).rx.phase = .check ∧ (receiving .check 1 [0, 2]).rx.expected = 1 ∧
      checkOk ((receiving .check 1 [0, 2]).rx.buffer ++ [0xFD]) = true ∧ { up with closing := true }.closing = true ∧
      State.reset.resetAsserted = true := by
  decide +kernel

theorem test_meets_WrongCheckTakesTheBytesAgain :
    (receiving .check 1 [2, 0xB6, 2, 0xB6]).resetAsserted = false ∧ (receiving .check 1 [2, 0xB6, 2, 0xB6]).closing = false ∧
      (receiving .check 1 [2, 0xB6, 2, 0xB6]).rx.phase = .check ∧ (receiving .check 1 [2, 0xB6, 2, 0xB6]).rx.expected = 1 ∧
      checkOk ((receiving .check 1 [2, 0xB6, 2, 0xB6]).rx.buffer ++ [2]) = false := by
  decide +kernel

theorem test_meets_TransmitterSendsInOrder :
    { up with tx := [reply] }.sending = none ∧ { up with tx := [reply] }.tx = reply :: [] ∧
      { up with sending := some reply }.sending = some reply ∧ { up with sending := some reply }.resetAsserted = false ∧
      up.sending = none ∧ { up with sending := some reply }.closing = false ∧
      { up with sending := some reply, closing := true, tx := [reply] }.tx ≠ [] ∧
      { up with sending := some reply, closing := true }.closing = true ∧
      { up with sending := some reply, closing := true }.tx = [] := by
  decide +kernel

theorem test_meets_SettingsReadAndSet :
    (∀ kind ∈ [(0x01 : Byte), 0x02, 0x04, 0x05, 0x06], Taken up 1 kind) ∧
      (∀ ms ∈ [(10 : Byte), 250], 10 ≤ ms.toNat ∧ ms.toNat ≤ 250 ∧ ms.toNat % 10 = 0 ∧ (1 : Byte).toNat ≤ 1) ∧
      (∀ ms ∈ [(0 : Byte), 15, 251], ¬ (10 ≤ ms.toNat ∧ ms.toNat ≤ 250 ∧ ms.toNat % 10 = 0)) ∧
      ladderOk [300] = true ∧ ladderOk [300, 301, 302, 303, 304, 305, 306, 307, 308, 309, 310, 20000] = true ∧
      ∀ ps, ladderOk ps = true → ([] : List Byte) ≠ ladderPayload ps :=
  ⟨fun kind _ => test_taken_up 1 kind (by decide), by decide, by decide, by decide, by decide, fun _ _ h => nomatch h⟩

theorem test_meets_SetTargetStalesProfiles :
    Taken up 1 0x03 ∧ targetOk targetDefault = true ∧ targetOk { targetDefault with allowance := 21 } = false ∧
      (∃ e ∈ (profiles [{ entry 1 (.valid snapshot workedResult) with applied := true }] none up).entries, e.applied = true) ∧
      ∀ e ∈ (profiles [entry 1 (.valid snapshot workedResult)] none up).entries, e.applied = false :=
  ⟨test_taken_up 1 _ (by decide), by decide, by decide, by decide +kernel, by decide +kernel⟩

/-- The worked record with the second module's decoded values changed. -/
def changed (f : Decoded → Decoded) : Work :=
  { workedWork with
    copies :=
      [{ slot := 0, state := .valid, clash := false, decoded := some (decodeImage imageA), overrides := [] },
        { slot := 1, state := .valid, clash := false, decoded := some (f (decodeImage imageB)), overrides := [] }] }

/-- Nothing before the ratings fails: every copy ready and alike. -/
def alike (w : Work) : Bool :=
  w.copies.all fun c =>
    c.state == .valid && !c.clash && copyKind c == some .kindA && copyClass c == some .plain && copyWidth c == some .w64

/-- One record for each step that can fail, with what makes it fail there, and the failure record it ends in. -/
theorem test_meets_ResolutionStepsInOrder :
    resolveWork unreadyWork = .failure { reason := .notReady, slot := some 0, param := none } ∧
    resolveWork (changed fun d => { d with kind := some .kindB }) =
      .failure { reason := .mixedKind, slot := some 1, param := none } ∧
    resolveWork (changed fun d => { d with cls := some .buffered }) =
      .failure { reason := .mixedClass, slot := some 1, param := none } ∧
    resolveWork (changed fun d => { d with width := some .w32 }) =
      .failure { reason := .mixedWidth, slot := some 1, param := none } ∧
    (alike workedWork = true ∧
      resolveWork { workedWork with target := { targetDefault with expectedWidth := some .w72 } } =
        .failure { reason := .widthMismatch, slot := none, param := none }) ∧
    (let w := { changed fun d => { d with extRange := false } with request := { workedWork.request with hot := true } }
     alike w = true ∧ resolveWork w = .failure { reason := .notRatedHot, slot := some 1, param := none }) ∧
    (let w := changed fun d => { d with times := d.times.map fun t => { t with win := 6000000 } }
     alike w = true ∧ resolveWork w = .failure { reason := .countOverflow, slot := none, param := some .win }) ∧
    (let w := changed fun d => { d with refreshBase := 0 }
     alike w = true ∧ resolveWork w = .failure { reason := .countOverflow, slot := none, param := some .refresh }) ∧
    (let w := { changed fun d => { d with budget := some .untested } with target := { targetDefault with requireBudget := true } }
     alike w = true ∧ resolveWork w = .failure { reason := .budgetUnknown, slot := some 1, param := none }) ∧
    choosePeriod workedWork = .ok (1250, 11) ∧ AreCounts workedWork 1250 workedResult.counts ∧
      IsInterval workedWork 1250 6240 :=
  ⟨by decide +kernel, by decide +kernel, by decide +kernel, by decide +kernel, by decide +kernel, by decide +kernel,
    by decide +kernel, by decide +kernel, by decide +kernel, by rfl,
    (areCounts_iff _ (by decide) (by decide)).mpr (by decide +kernel),
    (isInterval_iff _ (by decide) (by decide)).mpr (by decide +kernel)⟩

theorem test_meets_SlotAndProfileViews :
    Taken up 1 0x10 ∧ Taken up 1 0x11 ∧ Taken up 1 0x21 ∧ Taken up 1 0x22 ∧ viewArg 5 = some .overrides ∧
      viewArg 4 = some .identity ∧ (up.slots.get 7).image = none ∧
      ((withOne { module .valid with image := some zeroCopy } up).slots.get 1).image ≠ none ∧
      (8 ≤ (8 : Byte).toNat ∧ 6 ≤ (6 : Byte).toNat) ∧
      ((profiles [entry 1 (.queued 8), entry 255 (.queued 9)] none up).entries.map Entry.handle).Nodup ∧
      ∀ e ∈ up.entries, e.handle ≠ 1 :=
  ⟨test_taken_up 1 _ (by decide), test_taken_up 1 _ (by decide), test_taken_up 1 _ (by decide),
    test_taken_up 1 _ (by decide), by decide, by decide, rfl, by decide +kernel, by decide, by decide +kernel,
    fun _ h => nomatch h⟩

theorem test_meets_ReadImageFromTheCopy :
    Taken up 1 0x12 ∧ (1 ≤ (64 : Byte).toNat ∧ (64 : Byte).toNat ≤ 64 ∧ (192 : Byte).toNat + (64 : Byte).toNat ≤ 256) ∧
      CopyOk zeroCopy ∧ (∀ a, a < 256 → 192 ≤ a → zeroCopy.marks[a / 16]? = some true) ∧
      (zeroCopy.marks.set 14 false)[220 / 16]? = some true ∧ (zeroCopy.marks.set 14 false)[227 / 16]? = some false ∧
      (up.slots.get 1).image = none ∧
      (8 ≤ (8 : Byte).toNat ∧ 64 < (65 : Byte).toNat ∧ 256 < (193 : Byte).toNat + (64 : Byte).toNat) :=
  ⟨test_taken_up 1 _ (by decide), by decide, @of_decide_eq_true _ (decCopy _) (by decide +kernel), by decide +kernel,
    by decide +kernel, by decide +kernel, rfl, by decide⟩

/-- Slot 1 with some overrides. -/
def overridden (os : List Override) : State := withOne { module .valid with overrides := os } up

/-- Eight overrides. -/
def eight : List Override :=
  [.acc, .opn, .cls, .hld, .cyc, .rfr, .trn, .rcl].map fun q => { param := q, value := 7 }

theorem test_meets_OverrideRequests :
    Taken up 1 0x16 ∧ Taken up 1 0x17 ∧ Param.win ∈ overridableParams ∧
      (1 ≤ (1 : Byte).toNat + 256 * (0 : Byte).toNat + 65536 * (0 : Byte).toNat ∧
        (0x40 : Byte).toNat + 256 * (0x42 : Byte).toNat + 65536 * (0x0F : Byte).toNat = 1000000) ∧
      (up.slots.get 1).state = .empty ∧ (settling.slots.get 1).state = .settling ∧
      ((overridden eight).slots.get 1).state ≠ .empty ∧ ((overridden eight).slots.get 1).state ≠ .settling ∧
      (∃ e ∈ (profiles [{ entry 1 (.valid snapshot workedResult) with applied := true }] none (overridden eight)).entries,
        e.applied = true ∧ (1 : SlotNo) ∈ e.request.slots) ∧
      (∀ e ∈ (overridden eight).entries, e.applied = true → (1 : SlotNo) ∉ e.request.slots) ∧
      ((∀ o ∈ ((overridden eight).slots.get 1).overrides, o.param ≠ .win) ∧ 8 ≤ ((overridden eight).slots.get 1).overrides.length) ∧
      { param := .acc, value := 7 } ∈ ((overridden eight).slots.get 1).overrides ∧
      (((overridden (eight.take 7)).slots.get 1).overrides.length < 8 ∧
        ∀ o ∈ ((overridden (eight.take 7)).slots.get 1).overrides, o.param ≠ .win) ∧
      (((overridden eight).slots.get 1).overrides = [] ++ { param := .acc, value := 7 } :: eight.tail ∧
        ∀ o ∈ [] ++ eight.tail, o.param ≠ .acc) ∧
      ((overridden []).slots.get 1).overrides = [] ∧ paramCode .fper = 0x01 ∧ Param.fper ∉ overridableParams :=
  ⟨test_taken_up 1 _ (by decide), test_taken_up 1 _ (by decide), by decide, by decide, by decide +kernel, by decide +kernel,
    by decide +kernel, by decide +kernel, by decide +kernel, (fun _ h => nomatch h), by decide +kernel, by decide +kernel,
    by decide +kernel, by decide +kernel, by decide +kernel, by decide, by decide⟩

theorem test_meets_IncrementStalesItsEntries :
    (∀ e ∈ (profiles [entry 1 (.valid snapshot workedResult)] none up).entries, ∀ sn, snapshotOf e = some sn →
      sn.gens.map Prod.fst = e.request.slots) := by
  intro e he sn hs
  simp only [profiles, List.mem_singleton] at he
  subst he
  simp only [snapshotOf, entry, Option.some.injEq] at hs
  subst hs; rfl

theorem test_meets_ModuleRequestChecks :
    Taken up 1 0x13 ∧ Taken up 1 0x14 ∧ (1 ≤ (1 : Byte).toNat ∧ (255 : Byte).toNat + (1 : Byte).toNat ≤ 256) ∧
      ((List.replicate 16 (0 : Byte)).length = (16 : Byte).toNat ∧ 1 ≤ (16 : Byte).toNat ∧ (16 : Byte).toNat ≤ 16) ∧
      (207 : Byte).toNat < 208 ∧ 208 ≤ (208 : Byte).toNat ∧ 256 < (241 : Byte).toNat + (16 : Byte).toNat ∧
      (209 : Byte).toNat / 16 ≠ ((209 : Byte).toNat + (16 : Byte).toNat - 1) / 16 ∧
      ((240 : Byte).toNat + (16 : Byte).toNat ≤ 256 ∧
        (240 : Byte).toNat / 16 = ((240 : Byte).toNat + (16 : Byte).toNat - 1) / 16) ∧
      (up.slots.get 1).state = .empty ∧ ((overridden []).slots.get 1).state = .valid ∧
      { overridden [] with bus := .faulted }.bus = .faulted ∧ (overridden []).bus ≠ .faulted :=
  ⟨test_taken_up 1 _ (by decide), test_taken_up 1 _ (by decide), by decide, by decide, by decide, by decide, by decide,
    by decide, by decide, rfl, by decide +kernel, rfl, by decide⟩

/-- A slot without a copy, one with a copy, and the last code of each table. -/
theorem test_meets_ReplyBytes :
    (up.slots.get 1).image = none ∧
      ((withOne { module .valid with image := some zeroCopy } up).slots.get 1).image = some zeroCopy ∧
      zeroCopy.bytes.length = 256 ∧
      ([.fper, .sper, .acc, .opn, .cls, .hld, .cyc, .rfr, .trn, .rcl, .wrc, .win, .refresh] : List Param)[12]? = some .refresh ∧
      ([.empty, .settling, .reading, .valid, .suspect, .unusable, .unreadable] : List SlotState)[6]? = some .unreadable := by
  decide +kernel

theorem test_meets_RescanAndBusReset :
    Taken up 1 0x15 ∧ Taken up 1 0x32 ∧ ((0 : Byte).toNat ≤ 1 ∧ (1 : Byte).toNat ≤ 1) ∧ (up.slots.get 1).state = .empty ∧
      ((overridden []).slots.get 1).state ≠ .empty ∧ ((overridden []).slots.get 1).state ≠ .settling ∧
      (∃ e ∈ (profiles [{ entry 1 (.valid snapshot workedResult) with applied := true }] none (overridden [])).entries,
        e.applied = true ∧ (1 : SlotNo) ∈ e.request.slots) ∧
      (∀ e ∈ (overridden []).entries, e.applied = true → (1 : SlotNo) ∉ e.request.slots) ∧
      { overridden [] with bus := .faulted }.bus = .faulted ∧ (overridden []).bus ≠ .faulted :=
  ⟨test_taken_up 1 _ (by decide), test_taken_up 1 _ (by decide), by decide, rfl, by decide +kernel, by decide +kernel,
    by decide +kernel, (fun _ h => nomatch h), rfl, by decide⟩

/-- Six entries, the third of them one that may be evicted when `free` says so. -/
def sixEntries (third : EntryState) : List Entry :=
  [entry 1 (.queued 201), entry 2 (.queued 202), entry 3 third, entry 4 (.queued 204), entry 5 (.queued 205),
    entry 6 (.queued 206)]

theorem test_meets_ResolveIsTaken :
    Taken up 1 0x20 ∧ TableInv up ∧ ([7, 0] : List SlotNo).Nodup ∧ ([7, 0] : List SlotNo) ≠ [] ∧
      (∀ q, ResolveMode.fixed 300 = .fixed q → q = (0x2C : Byte).toNat + 256 * (1 : Byte).toNat ∧ 300 ≤ q ∧ q ≤ 20000) ∧
      ((sixEntries (.queued 203)).length = 6 ∧ ∀ e ∈ sixEntries (.queued 203), evictable e = false) ∧
      (up.entries.length < 6 ∧ up.entries = []) ∧
      (sixEntries (.stale snapshot workedResult) =
          [entry 1 (.queued 201), entry 2 (.queued 202)] ++ entry 3 (.stale snapshot workedResult) ::
            [entry 4 (.queued 204), entry 5 (.queued 205), entry 6 (.queued 206)] ∧
        evictable (entry 3 (.stale snapshot workedResult)) = true ∧
        ∀ x ∈ [entry 1 (.queued 201), entry 2 (.queued 202)], evictable x = false) ∧
      TableInv (profiles (sixEntries (.stale snapshot workedResult)) none up) ∧
      (∀ (slots : List Byte) (mode p0 p1 hot acc : Byte),
        ([1, 8, 0, 0, 0, 0, 0] : List Byte) = BitVec.ofNat 8 slots.length :: slots ++ [mode, p0, p1, hot, acc] →
          ∃ b ∈ slots, 8 ≤ b.toNat) :=
  ⟨test_taken_up 1 _ (by decide), test_inv_up.table, by decide, by decide,
    fun q h => by cases h; decide, by decide +kernel, by decide, by decide +kernel,
    @of_decide_eq_true _ (decTable _) (by decide +kernel), fun slots mode p0 p1 hot acc h => by
      have hl : slots.length = 1 := by simpa using (congrArg List.length h).symm
      obtain ⟨b, rfl⟩ := List.length_eq_one_iff.mp hl
      have hb : b = 8 := by simp at h; exact h.1.symm
      exact ⟨b, List.mem_singleton.mpr rfl, by subst hb; decide⟩⟩

/-- A table with a VALID entry of handle 1 and an applied STALE one of handle 2. -/
def twoEntries (applied : Bool) : State :=
  profiles [entry 1 (.valid snapshot workedResult), { entry 2 (.stale snapshot workedResult) with applied := applied }] none up

theorem test_meets_ApplyChecks :
    Taken (twoEntries true) 1 0x23 ∧ ((twoEntries true).entries.map Entry.handle).Nodup ∧
      (∀ e ∈ (twoEntries true).entries, e.handle ≠ 0) ∧
      { entry 2 (.stale snapshot workedResult) with applied := true } ∈ (twoEntries true).entries ∧
      entry 1 (.valid snapshot workedResult) ∈ (twoEntries true).entries ∧
      (∀ x ∈ (twoEntries false).entries, x.applied = false) ∧
      entry 2 (.stale snapshot workedResult) ∈ (twoEntries false).entries ∧
      (∀ sn p, (entry 2 (.stale snapshot workedResult)).state ≠ .valid sn p) :=
  ⟨⟨rfl, rfl, by decide, by decide, (fun _ h => nomatch h), Or.inl (by decide)⟩, by decide +kernel, by decide +kernel,
    by decide +kernel, by decide +kernel, by decide +kernel, by decide +kernel, fun _ _ h => nomatch h⟩

theorem test_meets_UnapplyChecks :
    Taken (twoEntries true) 1 0x24 ∧ ((twoEntries true).entries.map Entry.handle).Nodup ∧
      (twoEntries true).entries.countP Entry.applied ≤ 1 ∧ (∀ e ∈ (twoEntries true).entries, e.handle ≠ 0) ∧
      { entry 2 (.stale snapshot workedResult) with applied := true } ∈ (twoEntries true).entries ∧
      entry 1 (.valid snapshot workedResult) ∈ (twoEntries true).entries :=
  ⟨⟨rfl, rfl, by decide, by decide, (fun _ h => nomatch h), Or.inl (by decide)⟩, by decide +kernel, by decide +kernel,
    by decide +kernel, by decide +kernel, by decide +kernel⟩

/-- A table with an entry of every state that a DROP meets, and their requests. -/
def manyEntries : State :=
  { profiles
      [{ entry 1 (.valid snapshot workedResult) with applied := true }, entry 2 (.stale snapshot workedResult),
        entry 3 (.building 8 snapshot), entry 4 (.queued 9)] (some workedWork) up with
    inbox := [{ tag := 8, kind := 0x20, claim := .profile }, { tag := 9, kind := 0x20, claim := .profile }] }

theorem test_meets_DropFreesTheEntry :
    Taken manyEntries 1 0x25 ∧ Inv manyEntries ∧ (∀ e ∈ manyEntries.entries, e.handle ≠ 0) ∧
      { entry 1 (.valid snapshot workedResult) with applied := true } ∈ manyEntries.entries ∧
      (entry 2 (.stale snapshot workedResult) ∈ manyEntries.entries ∧
        requestTag (entry 2 (.stale snapshot workedResult)) = none) ∧
      entry 3 (.building 8 snapshot) ∈ manyEntries.entries ∧ entry 4 (.queued 9) ∈ manyEntries.entries :=
  ⟨⟨rfl, rfl, by decide, by decide, by decide, Or.inl (by decide)⟩, @of_decide_eq_true _ (decInv _) (by decide +kernel),
    by decide +kernel, by decide +kernel, by decide +kernel, by decide +kernel, by decide +kernel⟩

theorem test_meets_FetchRemovesFromTheFront :
    Taken up 1 0x30 ∧ (1 ≤ (1 : Byte).toNat ∧ (6 : Byte).toNat ≤ 6) ∧ 6 < (7 : Byte).toNat :=
  ⟨test_taken_up 1 _ (by decide), by decide, by decide⟩

/-- The site with a job in flight of a work and claims, in an activity. -/
def claimed (w : JobWork) (presence : Bool) (a : Activity) : State :=
  siteOf { launch { work := w, presence := presence, tags := [5] } false with activity := a }

theorem test_meets_CancelWithdrawsTheRequest :
    (Taken (siteOf lastSegment) 1 0x31 ∧ Inv (siteOf lastSegment)) ∧ (∀ o ∈ (siteOf lastSegment).inbox, o.tag ≠ 99) ∧
      (∃ j ∈ (siteOf lastSegment).jobs, (6 : Byte) ∈ j.tags) ∧
      ((siteOf lastSegment).inFlight = some lastSegment ∧ (5 : Byte) ∈ lastSegment.job.tags ∧
        isReading lastSegment.job = true ∧ lastSegment.job.presence = false ∧ lastSegment.job.tags = [5] ∧
        lastSegment.activity ≠ .retryWait) ∧
      Inv (claimed (.scan 1) true .retryWait) ∧ Inv (claimed (.moduleRead 1 0 1) false .retryWait) ∧
      (Inv (siteOf lastWrite) ∧ isReading lastWrite.job = false) ∧
      (Inv manyEntries ∧ entry 3 (.building 8 snapshot) ∈ manyEntries.entries ∧ entry 4 (.queued 9) ∈ manyEntries.entries) :=
  ⟨⟨⟨rfl, rfl, by decide +kernel, by decide, by decide +kernel, Or.inr (Or.inr (Or.inl rfl))⟩, test_inv_scan⟩,
    by decide +kernel, by decide +kernel, by decide +kernel, @of_decide_eq_true _ (decInv _) (by decide +kernel),
    @of_decide_eq_true _ (decInv _) (by decide +kernel), ⟨test_inv_write, rfl⟩,
    test_meets_DropFreesTheEntry.2.1, by decide +kernel, by decide +kernel⟩

theorem test_meets_SessionResetKeepsTheModules :
    Taken (siteOf lastSegment) 1 0x33 ∧ up.inFlight = none ∧ (siteOf lastSegment).inFlight = some lastSegment ∧
      isReading lastWrite.job = false ∧
      (isReading lastSegment.job = true ∧ ¬ (isScan lastSegment.job = true ∧ lastSegment.job.presence = true) ∧
        lastSegment.activity ≠ .retryWait) ∧
      { lastSegment with activity := .retryWait }.activity = .retryWait :=
  ⟨⟨rfl, rfl, by decide +kernel, by decide, by decide +kernel, Or.inr (Or.inr (Or.inr rfl))⟩, rfl, rfl, rfl,
    by decide +kernel, rfl⟩

theorem test_meets_FullResetBeginsClosing :
    Taken (siteOf lastSegment) 1 0x33 ∧ up.inFlight = none ∧ (siteOf lastSegment).inFlight = some lastSegment ∧
      ([] : List Byte) ≠ [0] ∧ ([2] : List Byte) ≠ [1] :=
  ⟨test_meets_SessionResetKeepsTheModules.1, rfl, rfl, by decide, by decide⟩

/-- The seven statements about every step: a state that keeps the invariants and a step that answers a next state. -/
theorem test_meets_StepKeeps :
    Inv { siteOf lastSegment with pending := [.segmentDone (List.replicate 16 0)] } ∧
      ∃ t, step { siteOf lastSegment with pending := [.segmentDone (List.replicate 16 0)] } = .next t :=
  ⟨@of_decide_eq_true _ (decInv _) (by decide +kernel), _, rfl⟩

theorem test_meets_StepKeeps_in_reset :
    Inv { State.reset with pending := [.characterDropped] } ∧
      ∃ t, step { State.reset with pending := [.characterDropped] } = .next t ∧ t.resetAsserted = true :=
  ⟨@of_decide_eq_true _ (decInv _) (by decide +kernel), _, rfl, rfl⟩

end Sys2Proof.Tests
end

section
/-! Each decoding of an image as an equation over the numbers its bytes stand for: the codes, the times, the latency
list, the budget, the output. -/

namespace Sys2Proof.Machine

/-! ### Fields of a byte -/

/-- The high four bits of a byte. -/
theorem bitsOf_high_nibble (x : Byte) : bitsOf x 4 4 = x.toNat / 16 := by
  have hx := x.isLt
  simp only [bitsOf]; omega

/-- The low four bits of a byte. -/
theorem bitsOf_low_nibble (x : Byte) : bitsOf x 0 4 = x.toNat % 16 := by simp [bitsOf]

/-- The lowest two bits of a byte. -/
theorem bitsOf_low_pair (x : Byte) : bitsOf x 0 2 = x.toNat % 4 := by simp [bitsOf]

/-- The highest two bits of a byte. -/
theorem bitsOf_high_pair (x : Byte) : bitsOf x 6 2 = x.toNat / 64 := by
  have hx := x.isLt
  simp only [bitsOf]; omega

/-- A bit of a byte as a digit of the number it stands for. -/
theorem getLsbD_eq_digit (x : Byte) (i : Nat) : x.getLsbD i = (x.toNat / 2 ^ i % 2 == 1) := by
  rw [BitVec.getLsbD, Nat.testBit_eq_decide_div_mod_eq, beq_eq_decide]

/-- A byte equals a constant below 256 when the numbers agree. -/
theorem beq_ofNat_eq_toNat_beq (x : Byte) (k : Nat) (hk : k < 256) : (x == BitVec.ofNat 8 k) = (x.toNat == k) := by
  rw [Bool.eq_iff_iff, beq_iff_eq, beq_iff_eq, BitVec.toNat_eq, BitVec.toNat_ofNat, Nat.mod_eq_of_lt hk]

/-! ### Codes (R4 to R9) -/

theorem identityCovered_eq (img : List Byte) : identityCovered img = decide (128 ≤ (imageByte img 0x00).toNat) := by
  rw [identityCovered, BitVec.msb_eq_decide]

theorem memKind_eq (img : List Byte) :
    memKind img =
      if (imageByte img 0x02).toNat = 0x41 then some .kindA
      else if (imageByte img 0x02).toNat = 0x42 then some .kindB else none := by
  unfold memKind; split <;> simp_all

theorem modClass_eq (img : List Byte) :
    modClass img =
      if (imageByte img 0x03).toNat = 0 then some .plain
      else if (imageByte img 0x03).toNat = 1 then some .buffered else none := by
  unfold modClass; split <;> simp_all

/-- The BUFFERED class is code 1. -/
theorem modClass_eq_buffered_iff (img : List Byte) :
    modClass img = some .buffered ↔ (imageByte img 0x03).toNat = 1 := by
  rw [modClass_eq]; split_ifs <;> simp_all

theorem dataWidth_eq (img : List Byte) :
    dataWidth img =
      if (imageByte img 0x04).toNat % 4 = 0 then some .w32 else if (imageByte img 0x04).toNat % 4 = 1 then some .w64
      else if (imageByte img 0x04).toNat % 4 = 2 then some .w72 else none := by
  rw [dataWidth, bitsOf_low_pair]; split <;> simp_all

/-- The rank code 3 is the one without a count. -/
theorem rankCount_isNone (img : List Byte) : (rankCount img).isNone = ((imageByte img 0x04).toNat / 4 % 4 == 3) := by
  have hlt : (imageByte img 0x04).toNat / 4 % 4 < 4 := Nat.mod_lt _ (by decide)
  rw [rankCount, show bitsOf (imageByte img 0x04) 2 2 = (imageByte img 0x04).toNat / 4 % 4 from rfl]
  generalize (imageByte img 0x04).toNat / 4 % 4 = code at hlt ⊢
  interval_cases code <;> rfl

theorem grain_eq (img : List Byte) :
    grain img =
      if (imageByte img 0x05).toNat ≤ 1 then some (if (imageByte img 0x05).toNat = 0 then 100 else 250) else none := by
  unfold grain
  split
  · next h => simp [h]
  · next h => simp [h]
  · next h0 h1 =>
    have hunknown : ¬(imageByte img 0x05).toNat ≤ 1 := fun h => (Nat.le_one_iff_eq_zero_or_eq_one.mp h).elim h0 h1
    rw [if_neg hunknown]

/-! ### Times (R10, R11) -/

/-- The twelve effective times under a grain, each with the offset of its bytes. -/
def timesAtGrain (img : List Byte) (g : Int) : Times :=
  { fper := imageWord img 0x06 * g + (imageByte img 0x08).toInt * 2, sper := imageWord img 0x09 * g
    acc := imageWord img 0x14 * g + (imageByte img 0x16).toInt * 2
    opn := imageWord img 0x17 * g + (imageByte img 0x19).toInt * 2
    cls := imageWord img 0x1A * g + (imageByte img 0x1C).toInt * 2, hld := imageWord img 0x1D * g
    cyc := imageWord img 0x1F * g + (imageByte img 0x21).toInt * 2, rfr := imageWord img 0x22 * g
    trn := (imageByte img 0x24).toNat * g, rcl := (imageByte img 0x25).toNat * g
    wrc := (imageByte img 0x26).toNat * g, win := imageWord img 0x27 * g }

theorem times_eq (img : List Byte) :
    times img =
      if (imageByte img 0x05).toNat ≤ 1 then
        some (timesAtGrain img (if (imageByte img 0x05).toNat = 0 then 100 else 250))
      else none := by
  have ofGrain (g : Nat) (hg : grain img = some g) : times img = some (timesAtGrain img g) := by
    simp only [times, hg, timesAtGrain, effectiveTime, fine, fineOffset, coarse, signedByte, zero_mul, add_zero]
  have hgrain := grain_eq img
  split_ifs at hgrain ⊢
  · exact ofGrain 100 hgrain
  · exact ofGrain 250 hgrain
  · simp only [times, hgrain]

/-! ### Runs of bytes and the latency list (R12) -/

/-- A window inside a run of bytes, byte by byte. -/
theorem window_eq_map_range (bs : List Byte) (off len : Nat) (h : off + len ≤ bs.length) :
    window bs off len = (List.range len).map fun i => bs.getD (off + i) 0 := by
  apply List.ext_getElem
  · simp [window]; omega
  · intro i hi _
    have hi' : off + i < bs.length := by simp [window] at hi; omega
    simp [window, hi']

theorem latencyList_eq (img : List Byte) (hlen : img.length = 256) :
    latencyList img =
      if (imageByte img 0x0B).toNat ≤ 8 then
        some ((List.range (imageByte img 0x0B).toNat).map fun i => (imageByte img (0x0C + i)).toNat)
      else none := by
  unfold latencyList latencyCount
  split
  · next h =>
    rw [window_eq_map_range img _ _ (by omega), List.map_map]
    rfl
  · rfl

/-! ### Thermal flags, budget and output (R14 to R17) -/

theorem extRange_eq (img : List Byte) : extRange img = ((imageByte img 0x2B).toNat % 2 == 1) := by
  rw [extRange, getLsbD_eq_digit, pow_zero, Nat.div_one]

theorem extNative_eq (img : List Byte) : extNative img = ((imageByte img 0x2B).toNat / 2 % 2 == 1) :=
  getLsbD_eq_digit _ 1

theorem rankSwap_eq (img : List Byte) : rankSwap img = ((imageByte img 0x52).toNat % 2 == 1) := by
  rw [rankSwap, getLsbD_eq_digit, pow_zero, Nat.div_one]

/-- The window doubles with each code up to 2. -/
theorem budgetWindow_eq (code : Nat) : budgetWindow code = if code ≤ 2 then some (1000 * 2 ^ code) else none := by
  match code with
  | 0 | 1 | 2 => rfl
  | _ + 3 => simp [budgetWindow]

theorem budget_eq (img : List Byte) :
    budget img =
      if (imageByte img 0x2C).toNat % 16 = 0 then some .untested
      else if (imageByte img 0x2C).toNat % 16 = 15 then some .unlimited
      else if (imageByte img 0x2C).toNat % 16 ≤ 9 ∧ (imageByte img 0x2C).toNat / 16 % 4 ≤ 2 then
        some (.numeric ((imageByte img 0x2C).toNat % 16 * 100000) (1000 * 2 ^ ((imageByte img 0x2C).toNat / 16 % 4)))
      else none := by
  have hwindow : bitsOf (imageByte img 0x2C) 4 2 = (imageByte img 0x2C).toNat / 16 % 4 := rfl
  simp only [budget, budgetOf, bitsOf_low_nibble, hwindow, budgetWindow_eq, ite_and]
  split_ifs <;> rfl

theorem driveLevel_eq (code : Nat) :
    driveLevel code =
      if code = 0 then some .light else if code = 1 then some .moderate else if code = 2 then some .strong else none := by
  match code with
  | 0 | 1 | 2 => rfl
  | _ + 3 => simp [driveLevel]

theorem drives_eq (img : List Byte) :
    drives img =
      { command := driveLevel ((imageByte img 0x56).toNat % 4), control := driveLevel ((imageByte img 0x56).toNat / 4 % 4)
        clockA := driveLevel ((imageByte img 0x56).toNat / 16 % 4)
        clockB := driveLevel ((imageByte img 0x56).toNat / 64) } := by
  simp only [drives, drivesOf, bitsOf_low_pair, bitsOf_high_pair]; rfl

theorem slotOutput_eq (img : List Byte) :
    slotOutput img =
      if (imageByte img 0x03).toNat = 0 then some (.rankSwap (rankSwap img))
      else if (imageByte img 0x03).toNat = 1 then some (.drives (drives img)) else none := by
  rw [slotOutput, modClass_eq]; split_ifs <;> rfl

/-- Settles O29: the equation of each decoding, field by field. -/
theorem decodedValuesByTheBytes : Obligations.DecodedValuesByTheBytes := by
  intro img hlen b word fine grain wide times level
  have houtput := slotOutput_eq img
  simp only [rankSwap_eq, drives_eq, driveLevel_eq] at houtput
  rw [decodeImage, Decoded.mk.injEq]
  exact ⟨memKind_eq img, modClass_eq img, dataWidth_eq img, times_eq img, latencyList_eq img hlen, rfl, extRange_eq img,
    extNative_eq img, budget_eq img, houtput⟩

end Sys2Proof.Machine
end

section
/-! Each check of the Descriptor Validator as an equation over the numbers the bytes of the image stand for, in the order of
R24. -/

namespace Sys2Proof.Machine

/-! ### The check register (R21) -/

theorem crc_append_singleton (bs : List Byte) (x : Byte) : crc (bs ++ [x]) = crcByte (crc bs) x := by
  simp [crc]

/-- R27, over the bytes R22 covers. -/
theorem checkCrc_eq (img : List Byte) :
    checkCrc img =
      faultIf ((crc (img.take (if 128 ≤ (imageByte img 0x00).toNat then 176 else 144))).toNat != imageWord img 0xB0)
        .crcMismatch := by
  simp only [checkCrc, computedCheck, storedCheck, coveredLength, identityCovered_eq, decide_eq_true_eq]

/-! ### Codes (R28, R29) -/

theorem memKind_isNone (img : List Byte) :
    (memKind img).isNone = ((imageByte img 0x02).toNat != 0x41 && (imageByte img 0x02).toNat != 0x42) := by
  rw [memKind_eq]; split_ifs <;> simp_all

theorem modClass_isNone (img : List Byte) : (modClass img).isNone = decide (2 ≤ (imageByte img 0x03).toNat) := by
  rw [modClass_eq]
  split_ifs <;> simp <;> omega

theorem dataWidth_isNone (img : List Byte) : (dataWidth img).isNone = ((imageByte img 0x04).toNat % 4 == 3) := by
  rw [dataWidth_eq]
  split_ifs <;> simp <;> omega

theorem checkFormat_eq (img : List Byte) :
    checkFormat img =
      faultIf ((imageByte img 0x01).toNat / 16 != 1) .formatMajor ++
        faultIf ((imageByte img 0x02).toNat != 0x41 && (imageByte img 0x02).toNat != 0x42) .kindUnknown ++
        faultIf (2 ≤ (imageByte img 0x03).toNat) .classUnknown := by
  rw [checkFormat, majorRevision, bitsOf_high_nibble, memKind_isNone, modClass_isNone]

theorem checkOrganisation_eq (img : List Byte) :
    checkOrganisation img =
      faultIf ((imageByte img 0x04).toNat % 4 == 3) .widthUnknown ++
        faultIf ((imageByte img 0x04).toNat / 4 % 4 == 3) .ranksUnknown := by
  rw [checkOrganisation, dataWidth_isNone, rankCount_isNone]

/-! ### Times (R30, R31) -/

/-- The time checks of a known grain. -/
def timeFaults (t : Times) : List ImageFault :=
  (timeParams.filter fun p => timeOf t p ≤ 0).map ImageFault.timeNotPositive ++ faultIf (t.sper < t.fper) .periodOrder ++
    faultIf (t.cyc < t.hld + t.cls) .cycleShort

theorem checkTimes_eq (img : List Byte) :
    checkTimes img =
      if 2 ≤ (imageByte img 0x05).toNat then [.grainUnknown]
      else timeFaults (timesAtGrain img (if (imageByte img 0x05).toNat = 0 then 100 else 250)) := by
  rw [checkTimes, times_eq]
  by_cases h : (imageByte img 0x05).toNat ≤ 1
  · have hknown : ¬2 ≤ (imageByte img 0x05).toNat := by omega
    rw [if_pos h, if_neg hknown]; rfl
  · have hunknown : 2 ≤ (imageByte img 0x05).toNat := by omega
    rw [if_neg h, if_pos hunknown]

/-! ### Latencies (R32) -/

theorem strictlyAscending_iff_isChain (ls : List Nat) : strictlyAscending ls = true ↔ ls.IsChain (· < ·) := by
  match ls with
  | [] => simp [strictlyAscending]
  | [_] => simp [strictlyAscending]
  | a :: b :: rest => simp [strictlyAscending, strictlyAscending_iff_isChain (b :: rest)]

/-- The values of `f` in turn ascend when each is below the next. -/
theorem strictlyAscending_map_range (f : Nat → Nat) (n : Nat) :
    strictlyAscending ((List.range n).map f) = (List.range (n - 1)).all fun i => f i < f (i + 1) := by
  rw [Bool.eq_iff_iff, strictlyAscending_iff_isChain, List.isChain_map, List.isChain_range]
  simp

theorem checkLatencies_eq (img : List Byte) (hlen : img.length = 256) :
    checkLatencies img =
      faultIf (!(1 ≤ (imageByte img 0x0B).toNat && (imageByte img 0x0B).toNat ≤ 8 &&
        (List.range (imageByte img 0x0B).toNat).all (fun i =>
          4 ≤ (imageByte img (0x0C + i)).toNat && (imageByte img (0x0C + i)).toNat ≤ 40) &&
        (List.range ((imageByte img 0x0B).toNat - 1)).all fun i =>
          (imageByte img (0x0C + i)).toNat < (imageByte img (0x0D + i)).toNat)) .latencyList := by
  have hnext (i : Nat) : 0x0C + (i + 1) = 0x0D + i := by omega
  rw [checkLatencies, latencyList_eq img hlen]
  generalize (imageByte img 0x0B).toNat = count
  by_cases h : count ≤ 8
  · have hempty : (!(List.range count).isEmpty) = decide (1 ≤ count) := by cases count <;> simp
    simp only [h, if_true, latenciesPass, List.isEmpty_map, hempty, List.all_map, Function.comp_def,
      strictlyAscending_map_range, hnext, decide_true, Bool.and_true]
  · simp [h, latenciesPass]

/-! ### Refresh, thermal flags and budget (R33, R34) -/

theorem checkRefresh_eq (img : List Byte) :
    checkRefresh img =
      faultIf (imageWord img 0x29 < 20 || 400 < imageWord img 0x29) .refreshRange ++
        faultIf ((imageByte img 0x2B).toNat % 4 == 2) .thermalFlags := by
  have hflags : (extNative img && !extRange img) = ((imageByte img 0x2B).toNat % 4 == 2) := by
    rw [extNative_eq, extRange_eq, Bool.eq_iff_iff]
    simp
    omega
  rw [checkRefresh, hflags]; rfl

theorem budget_isNone (img : List Byte) :
    (budget img).isNone =
      ((10 ≤ (imageByte img 0x2C).toNat % 16 && (imageByte img 0x2C).toNat % 16 ≤ 14) ||
        (1 ≤ (imageByte img 0x2C).toNat % 16 && (imageByte img 0x2C).toNat % 16 ≤ 9 &&
          (imageByte img 0x2C).toNat / 16 % 4 == 3)) := by
  rw [budget_eq, Bool.eq_iff_iff]
  split_ifs <;> simp <;> omega

/-! ### The BUFFERED checks (R35) -/

/-- The faults of the things that fail a check, in their order, are one possible fault for each. -/
theorem map_filter_eq_flatMap_faultIf {α : Type} (p : α → Bool) (f : α → ImageFault) (as : List α) :
    (as.filter p).map f = as.flatMap fun a => faultIf (p a) (f a) := by
  induction as with
  | nil => rfl
  | cons a as ih => cases h : p a <;> simp [h, ih, faultIf]

/-- Of the two-bit codes, 3 is the one without a drive level. -/
theorem driveLevel_isNone (code : Nat) (h : code < 4) : (driveLevel code).isNone = (code == 3) := by
  interval_cases code <;> rfl

theorem bufferKindKnown_eq (img : List Byte) :
    bufferKindKnown img = ((imageByte img 0x55).toNat == 1 || (imageByte img 0x55).toNat == 2) := by
  rw [bufferKindKnown, ← beq_ofNat_eq_toNat_beq _ 1 (by decide), ← beq_ofNat_eq_toNat_beq _ 2 (by decide)]; rfl

theorem checkBuffered_eq (img : List Byte) :
    checkBuffered img =
      if (imageByte img 0x03).toNat = 1 then
        faultIf ((imageByte img 0x55).toNat != 1 && (imageByte img 0x55).toNat != 2) .bufferKind ++
          faultIf ((imageByte img 0x56).toNat % 4 == 3) (.driveLevel .command) ++
          faultIf ((imageByte img 0x56).toNat / 4 % 4 == 3) (.driveLevel .control) ++
          faultIf ((imageByte img 0x56).toNat / 16 % 4 == 3) (.driveLevel .clockA) ++
          faultIf ((imageByte img 0x56).toNat / 64 == 3) (.driveLevel .clockB)
      else [] := by
  have hpair (x : Nat) : x % 4 < 4 := Nat.mod_lt x (by decide)
  have hhigh : (imageByte img 0x56).toNat / 64 < 4 := by have := (imageByte img 0x56).isLt; omega
  simp only [checkBuffered, modClass_eq_buffered_iff, map_filter_eq_flatMap_faultIf, List.flatMap_cons, List.flatMap_nil,
    driveOf, drives_eq, driveLevel_isNone _ (hpair _), driveLevel_isNone _ hhigh, bufferKindKnown_eq, Bool.not_or,
    List.append_assoc, List.append_nil]
  rfl

/-! ### Makers, dates and text (R36) -/

/-- An ill-formed bank byte: an even count of one bits, or a one in the two bits above the bank number. -/
theorem not_bankWellFormed_eq (x : Byte) :
    (!bankWellFormed x) = ((List.range 8).countP (fun i => x.getLsbD i) % 2 == 0 || x.toNat / 32 % 4 != 0) := by
  have hones : (onesIn x % 2 != 1) = (onesIn x % 2 == 0) := by
    rcases Nat.mod_two_eq_zero_or_one (onesIn x) with h | h <;> rw [h] <;> rfl
  rw [bankWellFormed, Bool.not_and]
  exact congrArg (· || _) hones

theorem modClass_beq_buffered (img : List Byte) :
    (modClass img == some .buffered) = ((imageByte img 0x03).toNat == 1) := by
  rw [Bool.eq_iff_iff, beq_iff_eq, beq_iff_eq, modClass_eq_buffered_iff]

theorem checkMakers_eq (img : List Byte) :
    checkMakers img =
      faultIf ((List.range 8).countP (fun i => (imageByte img 0x90).getLsbD i) % 2 == 0 ||
          (imageByte img 0x90).toNat / 32 % 4 != 0) (.makerParity .module) ++
        faultIf ((imageByte img 0x03).toNat == 1 &&
          ((List.range 8).countP (fun i => (imageByte img 0x52).getLsbD i) % 2 == 0 ||
            (imageByte img 0x52).toNat / 32 % 4 != 0)) (.makerParity .buffer) := by
  rw [checkMakers, not_bankWellFormed_eq, not_bankWellFormed_eq, modClass_beq_buffered]; rfl

theorem bcdDigits_eq (x : Byte) : bcdDigits x = (x.toNat / 16 ≤ 9 && x.toNat % 16 ≤ 9) := by
  rw [bcdDigits, bitsOf_high_nibble, bitsOf_low_nibble]

theorem bcdValue_eq (x : Byte) : bcdValue x = 10 * (x.toNat / 16) + x.toNat % 16 := by
  rw [bcdValue, bitsOf_high_nibble, bitsOf_low_nibble]

/-- In the list of positions the place of the first hit is the hit itself. -/
theorem findIdx?_range (p : Nat → Bool) (n : Nat) : (List.range n).findIdx? p = (List.range n).find? p := by
  induction n with
  | zero => rfl
  | succ n ih =>
    rw [List.range_succ, List.findIdx?_append, List.find?_append, ih]
    cases h : p n <;> simp [h]

/-- The runs 0x2D to 0x2F and 0x30 to 0x39 of accepted characters are one run. -/
theorem textAccepted_eq (x : Byte) :
    textAccepted x =
      (x.toNat == 0x20 || (0x2D ≤ x.toNat && x.toNat ≤ 0x39) || (0x41 ≤ x.toNat && x.toNat ≤ 0x5A) || x.toNat == 0x5F ||
        (0x61 ≤ x.toNat && x.toNat ≤ 0x7A)) := by
  have hjoin : ((0x2D ≤ x.toNat && x.toNat ≤ 0x2F) || (0x30 ≤ x.toNat && x.toNat ≤ 0x39)) =
      (decide (0x2D ≤ x.toNat) && decide (x.toNat ≤ 0x39)) := by
    rw [Bool.eq_iff_iff]
    simp
    omega
  rw [← hjoin, ← Bool.or_assoc]; rfl

/-- At most one text fault, at the first position whose character is not accepted. -/
theorem checkText_eq (img : List Byte) (hlen : img.length = 256) :
    checkText img =
      (((List.range 20).find? fun i => !textAccepted (imageByte img (0x99 + i))).map ImageFault.textChar).toList := by
  have hfirst : ((partText img).findIdx? fun c => !textAccepted c) =
      (List.range 20).find? fun i => !textAccepted (imageByte img (0x99 + i)) := by
    rw [partText, window_eq_map_range img 0x99 20 (by omega), List.findIdx?_map, findIdx?_range]
    rfl
  rw [checkText, hfirst]
  cases (List.range 20).find? fun i => !textAccepted (imageByte img (0x99 + i)) <;> rfl

/-- Settles O4: the equation of each check, in the order of R24. -/
theorem imageFaultsByTheBytes : Obligations.ImageFaultsByTheBytes := by
  refine ⟨⟨rfl, fun bs x => crc_append_singleton bs x⟩, ?_⟩
  intro img hlen b word fine grain wide times one bank digits number character
  refine ⟨?_, rfl⟩
  simp only [imageFaults, checkCrc_eq, checkFormat_eq, checkOrganisation_eq, checkTimes_eq, timeFaults,
    checkLatencies_eq img hlen, checkRefresh_eq, checkBudget, budget_isNone, checkBuffered_eq, checkMakers_eq, checkDates,
    bcdDigits_eq, bcdValue_eq, checkText_eq img hlen, textAccepted_eq, List.append_assoc]
  rfl

end Sys2Proof.Machine
end

section
/-! The classification of an image by the families of its faults (R26). -/

namespace Sys2Proof.Machine

/-- CRC_MISMATCH is the one fault of the INTEGRITY family (R24). -/
theorem faultFamily_eq_integrity_iff (x : ImageFault) : faultFamily x = .integrity ↔ x = .crcMismatch := by
  cases x <;> simp [faultFamily]

/-- A fault of neither the CONTENT nor the INTEGRITY family is an IDENTITY fault. -/
theorem faultFamily_eq_identity_iff (x : ImageFault) :
    faultFamily x = .identity ↔ faultFamily x ≠ .content ∧ faultFamily x ≠ .integrity := by
  cases faultFamily x <;> simp

/-- The classification, with its two tests read as what R26 says of the faults found. -/
theorem classify_eq (found : List ImageFault) :
    classify found =
      if ∃ x ∈ found, faultFamily x = .content then .unusable
      else if ImageFault.crcMismatch ∈ found then .suspect else .valid := by
  simp [classify, faultFamily_eq_integrity_iff]

theorem classify_eq_unusable_iff (found : List ImageFault) :
    classify found = .unusable ↔ ∃ x ∈ found, faultFamily x = .content := by
  rw [classify_eq]
  split
  next hcontent => simp [hcontent]
  next hcontent => split <;> simp [hcontent]

theorem classify_eq_suspect_iff (found : List ImageFault) :
    classify found = .suspect ↔ (∀ x ∈ found, faultFamily x ≠ .content) ∧ ImageFault.crcMismatch ∈ found := by
  have hnone : (∀ x ∈ found, faultFamily x ≠ .content) ↔ ¬ ∃ x ∈ found, faultFamily x = .content := by simp
  rw [classify_eq, hnone]
  split
  next hcontent => simp [hcontent]
  next hcontent => split <;> simp [*]

theorem classify_eq_valid_iff (found : List ImageFault) :
    classify found = .valid ↔ ∀ x ∈ found, faultFamily x = .identity := by
  have hidentity : (∀ x ∈ found, faultFamily x = .identity) ↔
      (¬ ∃ x ∈ found, faultFamily x = .content) ∧ ImageFault.crcMismatch ∉ found := by
    simp only [faultFamily_eq_identity_iff, ne_eq, faultFamily_eq_integrity_iff, imp_and, forall_and, List.forall_mem_ne',
      not_exists, not_and]
  rw [classify_eq, hidentity]
  split
  next hcontent => simp [hcontent]
  next hcontent => split <;> simp [*]

theorem validate_classification (img : List Byte) : (validate img).classification = classify (imageFaults img) := by
  rw [validate]

theorem validate_faults (img : List Byte) : (validate img).faults = (imageFaults img).take 8 := by
  rw [validate, Config.maxListedFaults]

theorem validate_more (img : List Byte) : (validate img).more = decide (8 < (imageFaults img).length) := by
  rw [validate, Config.maxListedFaults]

/-- Settles O23: the listed faults are among those found, so what a classification says of all of them holds of the list. -/
theorem classificationByFamily : Obligations.ClassificationByFamily := by
  intro img
  have hlisted : ∀ x ∈ (validate img).faults, x ∈ imageFaults img := fun x hx => by
    rw [validate_faults] at hx
    exact List.mem_of_mem_take hx
  have hunusable := classify_eq_unusable_iff (imageFaults img)
  have hsuspect := classify_eq_suspect_iff (imageFaults img)
  have hvalid := classify_eq_valid_iff (imageFaults img)
  rw [← validate_classification] at hunusable hsuspect hvalid
  refine ⟨hunusable, hsuspect, hvalid, fun h x hx => ?_, fun h x hx => ?_, validate_faults img, ?_⟩
  · exact hvalid.mp h x (hlisted x hx)
  · exact (hsuspect.mp h).1 x (hlisted x hx)
  · rw [validate_more]
    exact decide_eq_true_iff

end Sys2Proof.Machine
end

section
/-! Each step of a resolution by itself, and the resolution as the first of its steps that fails (R111). -/

namespace Sys2Proof.Machine

/-! ### The first copy that fails a test -/

/-- The first copy of the list with a property; copies stand in ascending slot order, so its slot is the lowest (R128). -/
def IsLowest (cs : List SlotCopy) (bad : SlotCopy → Prop) (c : SlotCopy) : Prop :=
  ∃ front back, cs = front ++ c :: back ∧ bad c ∧ ∀ x ∈ front, ¬ bad x

/-- A test that decides a property fails at its lowest copy. -/
theorem firstFailing_of_isLowest {cs : List SlotCopy} {test : SlotCopy → Bool} {bad : SlotCopy → Prop} {c : SlotCopy}
    (htest : ∀ x, test x = true ↔ bad x) (r : FailureReason) (hc : IsLowest cs bad c) :
    firstFailing cs test r = some (failAt r c) := by
  obtain ⟨front, back, hcs, hbad, hfront⟩ := hc
  have hfind : cs.find? test = some c :=
    List.find?_eq_some_iff_append.mpr 
      ⟨(htest c).mpr hbad, front, back, hcs, fun x hx => by simpa [← htest x] using hfront x hx⟩
  rw [firstFailing, hfind, Option.map_some]

/-- A test that decides a property no copy has does not fail. -/
theorem firstFailing_of_forall_not {cs : List SlotCopy} {test : SlotCopy → Bool} {bad : SlotCopy → Prop}
    (htest : ∀ x, test x = true ↔ bad x) (r : FailureReason) (hcs : ∀ c ∈ cs, ¬ bad c) :
    firstFailing cs test r = none := by
  have hfind : cs.find? test = none := List.find?_eq_none.mpr fun c hc => (htest c).not.mpr (hcs c hc)
  rw [firstFailing, hfind, Option.map_none]

/-! ### The tests, as the rules state them (R40, R113, R123) -/

/-- Readiness as R40 says it. -/
theorem readyFor_iff (acceptSuspect : Bool) (st : SlotState) (clash : Bool) :
    readyFor acceptSuspect st clash = true ↔
      st = .valid ∧ (clash = false ∨ acceptSuspect = true) ∨ st = .suspect ∧ acceptSuspect = true := by
  cases st <;> simp [readyFor]

theorem differsFromFirst_iff {α : Type} [DecidableEq α] (f : SlotCopy → α) {cs rest : List SlotCopy} {first : SlotCopy}
    (hcs : cs = first :: rest) (c : SlotCopy) : differsFromFirst f cs c = true ↔ f c ≠ f first := by
  rw [hcs, differsFromFirst, bne_iff_ne]

theorem widthMismatch_iff {w : Work} {first : SlotCopy} {rest : List SlotCopy} (hcs : w.copies = first :: rest) :
    widthMismatch w = true ↔ ∃ e, w.target.expectedWidth = some e ∧ copyWidth first ≠ some e := by
  rw [widthMismatch, hcs]
  cases w.target.expectedWidth <;> simp

theorem untested_iff (c : SlotCopy) : untested c = true ↔ copyBudget c = some .untested := by
  rw [untested, beq_iff_eq]

/-! ### The hot rating and the budget: steps taken only when asked for (R115, R124) -/

/-- A step that looks at the copies only when asked fails at the lowest copy with the property once it is asked. -/
theorem guarded_firstFailing_of_isLowest {cs : List SlotCopy} {asked : Bool} {test : SlotCopy → Bool}
    {bad : SlotCopy → Prop} {c : SlotCopy} (htest : ∀ x, test x = true ↔ bad x) (r : FailureReason)
    (hc : IsLowest cs (fun x => asked = true ∧ bad x) c) :
    (if asked then firstFailing cs test r else none) = some (failAt r c) := by
  obtain ⟨front, back, hcs, ⟨hasked, hbad⟩, hfront⟩ := hc
  rw [if_pos hasked]
  exact firstFailing_of_isLowest htest r ⟨front, back, hcs, hbad, fun x hx hx' => hfront x hx ⟨hasked, hx'⟩⟩

theorem guarded_firstFailing_of_forall_not {cs : List SlotCopy} {asked : Bool} {test : SlotCopy → Bool}
    {bad : SlotCopy → Prop} (htest : ∀ x, test x = true ↔ bad x) (r : FailureReason)
    (hcs : ∀ c ∈ cs, ¬ (asked = true ∧ bad c)) :
    (if asked then firstFailing cs test r else none) = none := by
  split
  next hasked => exact firstFailing_of_forall_not htest r fun c hc hbad => hcs c hc ⟨hasked, hbad⟩
  next => rfl

/-! ### The counts -/

theorem countOverflow_of_first {k : Nine Nat} {front back : List (Param × Nat)} {q : Param} {n : Nat}
    (hk : countList k = front ++ (q, n) :: back) (hn : 4095 < n) (hfront : ∀ x ∈ front, x.2 ≤ 4095) :
    countOverflow k = some q := by
  have hfind : ((countList k).find? fun x => 4095 < x.2) = some (q, n) :=
    List.find?_eq_some_iff_append.mpr
      ⟨decide_eq_true hn, front, back, hk, fun x hx => by simpa using hfront x hx⟩
  rw [countOverflow, hfind, Option.map_some]

theorem countOverflow_eq_none {k : Nine Nat} (hk : ∀ x ∈ countList k, x.2 ≤ 4095) : countOverflow k = none := by
  simpa [countOverflow] using hk

/-! ### The steps in order (R111) -/

section Steps
variable {w : Work} {p l : Nat} {f : Failure} {q : Param}

theorem resolveWork_of_combineFailure (h : combineFailure w = some f) : resolveWork w = .failure f := by
  rw [resolveWork, h]

theorem resolveWork_of_hotFailure (hcombine : combineFailure w = none) (h : hotFailure w = some f) :
    resolveWork w = .failure f := by
  rw [resolveWork, hcombine, h]

theorem resolveWork_of_choosePeriod_error {r : FailureReason} (hcombine : combineFailure w = none)
    (hhot : hotFailure w = none) (h : choosePeriod w = .error r) : resolveWork w = .failure (failPlain r) := by
  rw [resolveWork, hcombine, hhot, h]

theorem resolveWork_of_choosePeriod_ok (hcombine : combineFailure w = none) (hhot : hotFailure w = none)
    (h : choosePeriod w = .ok (p, l)) : resolveWork w = buildProfile w p l := by
  rw [resolveWork, hcombine, hhot, h]

theorem buildProfile_of_countOverflow (h : countOverflow (cycleFixUp (plainCounts w p)) = some q) :
    buildProfile w p l = .failure { reason := .countOverflow, slot := none, param := some q } := by
  rw [buildProfile, h]

theorem buildProfile_of_refresh (hcounts : countOverflow (cycleFixUp (plainCounts w p)) = none)
    (h : refreshInterval w p < 1 ∨ 65535 < refreshInterval w p) :
    buildProfile w p l = .failure { reason := .countOverflow, slot := none, param := some .refresh } := by
  have htest : (decide (refreshInterval w p < 1) || decide (65535 < refreshInterval w p)) = true := by simpa using h
  simp only [buildProfile, hcounts, htest, if_true]

/-- With the counts and the refresh interval in range the budget decides. -/
theorem buildProfile_of_in_range (hcounts : countOverflow (cycleFixUp (plainCounts w p)) = none)
    (hlow : 1 ≤ refreshInterval w p) (hhigh : refreshInterval w p ≤ 65535) :
    (∀ f, budgetFailure w = some f → buildProfile w p l = .failure f) ∧
      (budgetFailure w = none → ∃ r, buildProfile w p l = .result r ∧ r.period = p ∧ r.latency = l) := by
  have htest : (decide (refreshInterval w p < 1) || decide (65535 < refreshInterval w p)) = false := by simp; omega
  constructor
  · intro f h
    simp only [buildProfile, hcounts, htest, h, Bool.false_eq_true, if_false]
  · intro h
    simp only [buildProfile, hcounts, htest, h, Bool.false_eq_true, if_false]
    exact ⟨_, rfl, rfl, rfl⟩

end Steps

/-- Settles O37: at each step the test fails at the lowest bad copy or at none, and with none the resolution comes to the
next step. -/
theorem resolutionStepsInOrder : Obligations.ResolutionStepsInOrder := by
  intro w first rest hw failed lowest passes unready otherKind otherClass otherWidth unexpected unrated untried
  have hne : w.copies ≠ [] := hw ▸ List.cons_ne_nil first rest
  have hunready (c : SlotCopy) : (!readyFor w.request.acceptSuspect c.state c.clash) = true ↔ unready c := by
    rw [Bool.not_eq_true', ← Bool.not_eq_true, readyFor_iff]
  have hunrated (c : SlotCopy) : (!copyExtRange c) = true ↔ copyExtRange c = false := by rw [Bool.not_eq_true']
  refine ⟨fun c hc => resolveWork_of_combineFailure ?_, fun hallReady => ?_⟩
  · simp [combineFailure, firstFailing_of_isLowest hunready _ hc, failAt]
  have hready := firstFailing_of_forall_not hunready .notReady hallReady
  refine ⟨fun c hc => resolveWork_of_combineFailure ?_, fun hsameKind => ?_⟩
  · simp [combineFailure, hready, firstFailing_of_isLowest (differsFromFirst_iff copyKind hw) _ hc, failAt]
  have hkind := firstFailing_of_forall_not (differsFromFirst_iff copyKind hw) .mixedKind hsameKind
  refine ⟨fun c hc => resolveWork_of_combineFailure ?_, fun hsameClass => ?_⟩
  · simp [combineFailure, hready, hkind, firstFailing_of_isLowest (differsFromFirst_iff copyClass hw) _ hc, failAt]
  have hclass := firstFailing_of_forall_not (differsFromFirst_iff copyClass hw) .mixedClass hsameClass
  refine ⟨fun c hc => resolveWork_of_combineFailure ?_, fun hsameWidth => ?_⟩
  · simp [combineFailure, hready, hkind, hclass, firstFailing_of_isLowest (differsFromFirst_iff copyWidth hw) _ hc, failAt]
  have hwidth := firstFailing_of_forall_not (differsFromFirst_iff copyWidth hw) .mixedWidth hsameWidth
  refine ⟨fun hunexpected => resolveWork_of_combineFailure ?_, fun hexpected => ?_⟩
  · simp [combineFailure, hready, hkind, hclass, hwidth, (widthMismatch_iff hw).mpr hunexpected, failPlain]
  have hcombine : combineFailure w = none := by
    simp [combineFailure, hready, hkind, hclass, hwidth, mt (widthMismatch_iff hw).mp hexpected]
  refine ⟨fun c hc => resolveWork_of_hotFailure hcombine (guarded_firstFailing_of_isLowest hunrated _ hc),
    fun hallRated => ?_⟩
  have hhot : hotFailure w = none := guarded_firstFailing_of_forall_not hunrated _ hallRated
  refine ⟨fun r hr => resolveWork_of_choosePeriod_error hcombine hhot hr, fun p l hok hp k interval hk hinterval => ?_⟩
  obtain rfl := (areCounts_iff k hne hp).mp hk
  obtain rfl := (isInterval_iff interval hne hp).mp hinterval
  have hbuild := resolveWork_of_choosePeriod_ok hcombine hhot hok
  simp only [failed, hbuild]
  refine ⟨fun front back q n hnamed hn hfront =>
    buildProfile_of_countOverflow (countOverflow_of_first hnamed hn hfront), fun hnamed => ?_⟩
  have hcounts := countOverflow_eq_none hnamed
  refine ⟨buildProfile_of_refresh hcounts, fun hlow hhigh => ?_⟩
  obtain ⟨hfail, hresult⟩ := buildProfile_of_in_range (l := l) hcounts hlow hhigh
  exact ⟨fun c hc => hfail _ (guarded_firstFailing_of_isLowest untested_iff _ hc),
    fun hallTried => hresult (guarded_firstFailing_of_forall_not untested_iff _ hallTried)⟩

end Sys2Proof.Machine
end

section
/-! A request row of the table is a whole good frame; what acceptance can do with a frame, and what a received byte can do
(R152 to R158). A property that frames and the receiver keep is kept by every request row, byte and gap expiry. -/

namespace Sys2Proof.Machine

/-- Tag, kind and payload of the frame a request row stands for (log 4); an event row is no frame. -/
def requestFrame : Instr → Option (Byte × Byte × List Byte)
  | .unknownKind tag kind payload => some (tag, kind, payload)
  | .info tag payload => some (tag, kindInfo, payload)
  | .configure tag payload => some (tag, kindConfigure, payload)
  | .setTarget tag payload => some (tag, kindSetTarget, payload)
  | .getTarget tag payload => some (tag, kindGetTarget, payload)
  | .setLadder tag payload => some (tag, kindSetLadder, payload)
  | .getLadder tag payload => some (tag, kindGetLadder, payload)
  | .listSlots tag payload => some (tag, kindListSlots, payload)
  | .getSlot tag payload => some (tag, kindGetSlot, payload)
  | .readImage tag payload => some (tag, kindReadImage, payload)
  | .readModule tag payload => some (tag, kindReadModule, payload)
  | .writeUser tag payload => some (tag, kindWriteUser, payload)
  | .rescan tag payload => some (tag, kindRescan, payload)
  | .setOverride tag payload => some (tag, kindSetOverride, payload)
  | .clearOverrides tag payload => some (tag, kindClearOverrides, payload)
  | .resolve tag payload => some (tag, kindResolve, payload)
  | .getProfile tag payload => some (tag, kindGetProfile, payload)
  | .listProfiles tag payload => some (tag, kindListProfiles, payload)
  | .applyProfile tag payload => some (tag, kindApply, payload)
  | .unapplyProfile tag payload => some (tag, kindUnapply, payload)
  | .dropProfile tag payload => some (tag, kindDrop, payload)
  | .fetchNotices tag payload => some (tag, kindFetchNotices, payload)
  | .cancel tag payload => some (tag, kindCancel, payload)
  | .busReset tag payload => some (tag, kindBusReset, payload)
  | .resetSession tag payload => some (tag, kindReset, payload)
  | .resetFull tag payload => some (tag, kindReset, payload)
  | _ => none

/-- A request row does what its frame does. -/
theorem exec_request {c : Instr} {tag kind : Byte} {payload : List Byte} (h : requestFrame c = some (tag, kind, payload))
    (s : State) : exec c s = .next (takeFrame tag kind payload s) := by
  cases c <;> cases h <;> rfl

/-- A frame has no effect, or is discarded OVERRUN, or refused, or passes acceptance and is handed to its owner. -/
theorem acceptFrame_cases (tag kind : Byte) (owner : State → State) (s : State) :
    acceptFrame tag kind owner s = s ∨ acceptFrame tag kind owner s = raise (.linkFrameDropped .overrun) s ∨
      (∃ st, acceptFrame tag kind owner s = refuse tag kind st s) ∨
      Taken s tag kind ∧ acceptFrame tag kind owner s = owner s := by
  unfold acceptFrame
  split
  next => exact .inl rfl
  next hopen =>
    split
    next => exact .inr (.inl rfl)
    next hfree =>
      split
      next => exact .inr (.inr (.inl ⟨_, rfl⟩))
      next htag =>
        split
        next => exact .inr (.inr (.inl ⟨_, rfl⟩))
        next hdup =>
          split
          next => exact .inr (.inr (.inl ⟨_, rfl⟩))
          next =>
            split
            next => exact .inr (.inr (.inl ⟨_, rfl⟩))
            next hfull =>
              have hlink : s.resetAsserted = false ∧ s.closing = false := by simpa [linkOpen] using hopen
              have hplaces : s.tx.length + s.inbox.length < 8 := by
                simp only [freePlaces, Config.replyPlaces] at hfree; omega
              have hroom : s.inbox.length < 4 ∨ kind = 0x30 ∨ kind = 0x31 ∨ kind = 0x33 := by
                simp only [Bool.and_eq_true, decide_eq_true_eq, not_and, Bool.not_eq_true', Bool.not_eq_false] at hfull
                rw [or_iff_not_imp_left, not_lt]
                intro hlen
                simpa [passesFull, kindFetchNotices, kindCancel, kindReset] using hfull hlen
              exact .inr (.inr (.inr ⟨⟨hlink.1, hlink.2, hplaces, htag, by simpa [isOutstanding] using hdup, hroom⟩, rfl⟩))

/-- A property kept by the receiver, by a discarded or refused frame, and by the owner of a frame that is taken. -/
structure LinkKeeps (Q : State → Prop) : Prop where
  receiver : ∀ (r : Receiver) (s : State), Q s → Q { s with rx := r }
  dropped : ∀ (c : DropCause) (s : State), Q s → Q (raise (.linkFrameDropped c) s)
  refused : ∀ (tag kind : Byte) (st : Status) (s : State), Q s → Q (refuse tag kind st s)
  owned : ∀ (tag kind : Byte) (payload : List Byte) (s : State), Taken s tag kind → Q s → Q (ownerOf tag kind payload s)

section Keeps
variable {Q : State → Prop} (hQ : LinkKeeps Q)
include hQ

theorem LinkKeeps.takeFrame (tag kind : Byte) (payload : List Byte) {s : State} (h : Q s) :
    Q (takeFrame tag kind payload s) := by
  rcases acceptFrame_cases tag kind (ownerOf tag kind payload) s with he | he | ⟨st, he⟩ | ⟨htaken, he⟩ <;>
    rw [Machine.takeFrame, he]
  · exact h
  · exact hQ.dropped _ _ h
  · exact hQ.refused _ _ _ _ h
  · exact hQ.owned _ _ _ _ htaken h

theorem LinkKeeps.discardFrame (c : DropCause) {s : State} (h : Q s) : Q (discardFrame c s) :=
  hQ.dropped _ _ (hQ.receiver _ _ h)

theorem LinkKeeps.judgeFrame (bytes : List Byte) {s : State} (h : Q s) : Q (judgeFrame bytes s).1 := by
  unfold Machine.judgeFrame
  split
  · simp only [handGood]
    split
    · exact hQ.takeFrame _ _ _ (hQ.receiver _ _ h)
    · exact hQ.receiver _ _ h
  · exact hQ.discardFrame _ h

theorem LinkKeeps.takeByte (b : Byte) {s : State} (h : Q s) : Q (takeByte b s).1 := by
  unfold Machine.takeByte
  split
  · dsimp only
    split
    · exact hQ.receiver _ _ h
    · exact h
  · split
    · exact hQ.receiver _ _ h
    · exact hQ.discardFrame _ h
  · exact hQ.receiver _ _ h
  · split
    · exact hQ.judgeFrame _ h
    · exact hQ.receiver _ _ h

theorem LinkKeeps.takeBytes (k : Nat) (bs : List Byte) {s : State} (h : Q s) : Q (takeBytes k bs s) := by
  induction k generalizing bs s with
  | zero => exact h
  | succ k ih =>
    cases bs with
    | nil => exact h
    | cons b bs =>
      rw [Machine.takeBytes]
      split
      · exact ih _ (hQ.takeByte b h)
      · exact h

/-- Such a property is kept by every request row. -/
theorem LinkKeeps.exec_request {c : Instr} {tag kind : Byte} {payload : List Byte} {s t : State}
    (hc : requestFrame c = some (tag, kind, payload)) (h : Q s) (ht : exec c s = .next t) : Q t := by
  rw [Machine.exec_request hc, Host.Outcome.next.injEq] at ht
  exact ht ▸ hQ.takeFrame _ _ _ h

theorem LinkKeeps.exec_byteReceived {b : Byte} {s t : State} (h : Q s) (ht : exec (.byteReceived b) s = .next t) : Q t := by
  cases ht
  exact hQ.takeBytes _ _ h

theorem LinkKeeps.exec_gapExpiry {s t : State} (h : Q s) (ht : exec .gapExpiry s = .next t) : Q t := by
  cases ht
  split
  · exact hQ.discardFrame _ h
  · exact h

end Keeps

end Sys2Proof.Machine
end

section
/-! The line reset and its release, the reset state's invariants, and the settling of a slot (R41 to R47, R166). -/

namespace Sys2Proof.Machine

/-! ### The line reset -/

/-- The release of RESET_N, written out slot by slot. -/
theorem releaseReset_eq (rate : Bool) (pres : Eight Bool) (s : State) :
    releaseReset rate pres s =
      { s with
        resetAsserted := false, rateHigh := rate, pres := pres
        slots := Eight.ofFn fun n =>
          if pres.get n = false ∧ (s.slots.get n).state = .empty then
            { s.slots.get n with state := .settling, settle := some s.config.settleMs }
          else s.slots.get n } := by
  simp [releaseReset, samplePresence]

/-- Settles O3: the reset values and the pins are those of the definitions, and the release is written out by its slots. -/
theorem lineResetAndRelease : Obligations.LineResetAndRelease := by
  refine ⟨fun s => rfl, fun s hreset => ?_, fun rate pres s hreset => ?_⟩
  · obtain ⟨hbus, hframe, hlevels⟩ := pins_reset hreset
    exact ⟨hbus, hframe, hlevels, fun hinv => by rw [hinv hreset]; rfl⟩
  · rw [← releaseReset_eq]
    exact congrArg Host.Outcome.next (if_pos hreset)

@[simp] theorem reset_slots_get (n : SlotNo) : State.reset.slots.get n = slotReset := Eight.get_ofFn _ n

/-- A slot record after a reset agrees with itself: it holds nothing. -/
theorem slotOk_slotReset : SlotOk slotReset := by
  simp [SlotOk, slotReset, occupied, classified]

theorem clashInv_reset : ClashInv State.reset := fun n => by
  simp [clashOf, slotReset]

theorem settingsInv_reset : SettingsInv State.reset := by
  refine ⟨?_, ?_, ?_⟩ <;> decide

/-- Settles O53: no slot holds anything, no job, request or entry is under way, and no list has an element. -/
theorem resetKeepsInv : Obligations.ResetKeepsInv := by
  intro pending
  have hrecord (n : SlotNo) : ({ State.reset with pending := pending } : State).slots.get n = slotReset :=
    reset_slots_get n
  exact
    { link := ⟨Nat.zero_le _, Nat.zero_le _, List.nodup_nil, fun _ ho => (List.not_mem_nil ho).elim, fun _ => rfl⟩
      rx := rfl
      notices := ⟨Nat.zero_le _, Nat.zero_le _, fun _ hn => (List.not_mem_nil hn).elim, rfl, rfl⟩
      reset := fun _ => rfl
      settings := settingsInv_reset
      slots := fun n => by
        rw [hrecord n]
        exact ⟨slotOk_slotReset, fun _ hc => nomatch hc⟩
      verdict := fun n _ hc => by
        rw [hrecord n] at hc
        exact nomatch hc
      clash := clashInv_reset
      presence := fun h => nomatch h
      reading := fun n hn => by
        rw [hrecord n] at hn
        exact nomatch hn
      bus := rfl
      queue := ⟨fun _ hj => (List.not_mem_nil hj).elim, List.nodup_nil⟩
      flight := fun _ hf => nomatch hf
      claims := ⟨.nil, .nil⟩
      table := ⟨Nat.zero_le _, List.nodup_nil, by simp [State.reset], Nat.zero_le _,
        fun _ he => (List.not_mem_nil he).elim⟩
      resolver := ⟨rfl, rfl⟩ }

/-! ### Presence lines and settling -/

/-- Settles O5: a presence low writes the level, and the slot only where it is EMPTY. -/
theorem presenceLowSettles : Obligations.PresenceLowSettles := by
  intro n s hrun
  have hexec : exec (.presenceLow n) s = .next (startSettling n { s with pres := s.pres.set n false }) := by
    simp [exec, execPresenceLow, hrun]
  rw [hexec, startSettling]
  split <;> rfl

/-- Out of a line reset a presence high is taken by the state of its slot. -/
theorem exec_presenceHigh {s : State} (n : SlotNo) (hrun : s.resetAsserted = false) :
    exec (.presenceHigh n) s = .next (presenceHigh n { s with pres := s.pres.set n true }) := by
  simp [exec, execPresenceHigh, hrun]

theorem presenceHigh_of_empty {n : SlotNo} {s : State} (h : (s.slots.get n).state = .empty) : presenceHigh n s = s := by
  simp [presenceHigh, h]

theorem presenceHigh_of_settling {n : SlotNo} {s : State} (h : (s.slots.get n).state = .settling) :
    presenceHigh n s = { s with slots := s.slots.set n { s.slots.get n with state := .empty, settle := none } } := by
  simp [presenceHigh, h]

/-- A presence high of a slot with a module is its removal. -/
theorem presenceHigh_of_occupied {n : SlotNo} {s : State} (h : occupied (s.slots.get n).state = true) :
    presenceHigh n s = removal n s := by
  unfold presenceHigh
  split <;> simp_all [occupied]

theorem exec_settleExpiry {n : SlotNo} {s : State} (h : (s.slots.get n).state = .settling) :
    exec (.settleExpiry n) s = .next (insertion n s) := by
  simp [exec, execSettleExpiry, h]

/-- Settles O6: an expiry inserts the module, and demands its scan unless the bus is FAULTED. -/
theorem settlingEnds : Obligations.SettlingEnds := by
  refine ⟨fun n s hrun => ⟨fun hsettling => ?_, fun hempty => ?_⟩,
    fun n s hsettling => ⟨fun hbus => ?_, fun hbus => ?_⟩⟩
  · rw [exec_presenceHigh n hrun, presenceHigh_of_settling (by exact hsettling)]
  · rw [exec_presenceHigh n hrun, presenceHigh_of_empty (by exact hempty)]
  · rw [exec_settleExpiry hsettling]
    simp [insertion, insertedSlot, hbus]
  · rw [exec_settleExpiry hsettling]
    simp [insertion, insertedSlot, hbus]

end Sys2Proof.Machine
end

section
/-! A slot event (R141, R193): the records it leaves, slot by slot, and the notices and entries it leaves, told by the slots
whose generation it changed. -/

namespace Sys2Proof.Machine

/-! ### Notices and staleness do not look at lines and records -/

/-- The state with other presence levels and other slot records. -/
def atModules (p : Eight Bool) (v : Eight Slot) (s : State) : State := { s with pres := p, slots := v }

theorem raise_atModules (b : NoticeBody) (p : Eight Bool) (v : Eight Slot) (s : State) :
    raise b (atModules p v s) = atModules p v (raise b s) := by
  unfold raise intake
  rw [show (atModules p v s).notices = s.notices from rfl]
  split
  next => rfl
  next => split <;> rfl

theorem raiseAll_atModules (bs : List NoticeBody) (p : Eight Bool) (v : Eight Slot) (s : State) :
    raiseAll bs (atModules p v s) = atModules p v (raiseAll bs s) := by
  induction bs generalizing s with
  | nil => rfl
  | cons b bs ih =>
    rw [raiseAll, List.foldl_cons, raise_atModules]
    exact ih (raise b s)

theorem staleSlots_atModules (hit : SlotNo → Bool) (p : Eight Bool) (v : Eight Slot) (s : State) :
    staleSlots hit (atModules p v s) = atModules p v (staleSlots hit s) :=
  raiseAll_atModules _ p v { s with entries := s.entries.map (staleEntry hit) }

/-- A slot event is its notices, then the staleness its increments call for, with the records it leaves. -/
theorem slotEvent_eq (own : SlotNo → Bool) (changed : Eight Slot) (bodies : List NoticeBody) (s : State) :
    slotEvent own changed bodies s =
      atModules s.pres (commitSlots own changed s).slots
        (staleSlots (incremented own s.slots changed) (raiseAll bodies s)) := by
  have hcommit : commitSlots own changed s = atModules s.pres (commitSlots own changed s).slots s := rfl
  rw [slotEvent, hcommit, raiseAll_atModules, staleSlots_atModules]
  rfl

/-! ### The records a slot event leaves -/

theorem incremented_eq (own : SlotNo → Bool) (before after : Eight Slot) (n : SlotNo) :
    incremented own before after n = (own n || ((before.get n).clash.isEmpty != (clashOf after n).isEmpty)) := by
  simp [incremented, clashFlipped, recomputeClashes]

section Records
variable {own : SlotNo → Bool} {changed : Eight Slot} {s : State} (bodies : List NoticeBody)

/-- A slot whose record an event leaves alone changes only by its clash set, with an increment where that fills or
empties. -/
theorem slotEvent_get_of_unchanged {m : SlotNo} (hown : own m = false) (hm : changed.get m = s.slots.get m) :
    (slotEvent own changed bodies s).slots.get m =
      { s.slots.get m with
        clash := clashOf changed m
        gen := if (s.slots.get m).clash.isEmpty = (clashOf changed m).isEmpty then (s.slots.get m).gen
          else (s.slots.get m).gen + 1 } := by
  rw [slotEvent_slots, commitSlots_get, incremented_eq, hown, hm, Bool.false_or]
  by_cases h : (s.slots.get m).clash.isEmpty = (clashOf changed m).isEmpty <;> simp [h]

/-- Where an event keeps the generations in the records it puts in place, the slots whose generation it changes are the
incremented ones. -/
theorem slotEvent_gen_ne (hgen : ∀ m, (changed.get m).gen = (s.slots.get m).gen) :
    (fun m => ((slotEvent own changed bodies s).slots.get m).gen != (s.slots.get m).gen) =
      incremented own s.slots changed := by
  funext m
  rw [slotEvent_slots, commitSlots_get, hgen m]
  cases incremented own s.slots changed m <;> simp

end Records

/-! ### Clash sets (R38) -/

theorem clashOf_of_key_none {v : Eight Slot} {n : SlotNo} (h : (v.get n).key = none) : clashOf v n = [] := by
  simp [clashOf, h]

theorem clashOf_of_key_some {v : Eight Slot} {n : SlotNo} {k : List Byte} (h : (v.get n).key = some k) :
    clashOf v n = allSlots.filter fun m => m != n && (v.get m).key == some k := by
  simp [clashOf, h]

/-- A slot is in a clash set exactly when it is another slot with the same key. -/
theorem mem_clashOf {v : Eight Slot} {n k : SlotNo} :
    k ∈ clashOf v n ↔ k ≠ n ∧ (v.get k).key = (v.get n).key ∧ (v.get n).key ≠ none := by
  cases h : (v.get n).key with
  | none => simp [clashOf_of_key_none h]
  | some key => simp [clashOf_of_key_some h]

theorem clashOf_nodup (v : Eight Slot) (n : SlotNo) : (clashOf v n).Nodup := by
  cases h : (v.get n).key with
  | none => simp [clashOf_of_key_none h]
  | some key =>
    rw [clashOf_of_key_some h]
    exact allSlots_nodup.filter _

/-- A slot that loses its key leaves the other clash sets. -/
theorem clashOf_set_of_key_none (v : Eight Slot) {n m : SlotNo} {r : Slot} (hr : r.key = none) (hm : m ≠ n) :
    clashOf (v.set n r) m = (clashOf v m).filter fun k => k != n := by
  have hkey : ((v.set n r).get m).key = (v.get m).key := by rw [Eight.get_set_other v r hm]
  cases h : (v.get m).key with
  | none => simp [clashOf_of_key_none h, clashOf_of_key_none (hkey.trans h)]
  | some key =>
    rw [clashOf_of_key_some h, clashOf_of_key_some (hkey.trans h), List.filter_filter]
    refine List.filter_congr fun k _ => ?_
    by_cases hk : k = n
    · simp [hk, hr]
    · simp [Eight.get_set_other v r hk, hk]

/-- Losing one slot empties a clash set exactly when it was the only one. -/
theorem isEmpty_filter_ne_iff {ks : List SlotNo} (hnodup : ks.Nodup) (n : SlotNo) :
    ks.isEmpty = (ks.filter fun k => k != n).isEmpty ↔ ks ≠ [n] := by
  match ks with
  | [] => simp
  | [a] =>
    by_cases h : a = n <;> simp [h]
  | a :: b :: rest =>
    have hab : a ≠ b := by simp at hnodup; exact hnodup.1.1
    by_cases ha : a = n
    · have hb : b ≠ n := fun h => hab (ha.trans h.symm)
      simp [ha, hb]
    · simp [ha]

/-! ### The end of a job -/

/-- After the end of a job nothing waits and the bus is IDLE, or the oldest waiting job has started. -/
theorem finishJob_cases (s : State) :
    s.jobs = [] ∧ (finishJob s).jobs = [] ∧ (finishJob s).inFlight = none ∧ (finishJob s).bus = .idle ∨
      ∃ j, s.jobs = j :: (finishJob s).jobs ∧ (finishJob s).inFlight = some (launch j false) ∧
        (finishJob s).bus = if j.work = .recover then .recovering else .busy := by
  cases h : s.jobs with
  | nil => rw [finishJob_no_job h]; exact .inl ⟨rfl, h, rfl, rfl⟩
  | cons j rest => rw [finishJob_job h]; exact .inr ⟨j, rfl, rfl, rfl⟩

/-! ### A failed scan (R53) -/

/-- The failure of one slot's scan is a slot event of that slot alone. -/
theorem failScans_singleton (n : SlotNo) (c : UnreadableCause) (s : State) :
    failScans [n] c s =
      slotEvent (fun m => m == n) (s.slots.set n (failedSlot c (s.slots.get n))) [.scanDone n .unreadable] s := by
  have hown : (fun m => [n].contains m) = fun m => m == n := by funext m; simp [beq_eq_decide]
  have hchanged : (Eight.ofFn fun m => if [n].contains m then failedSlot c (s.slots.get m) else s.slots.get m) =
      s.slots.set n (failedSlot c (s.slots.get n)) := by
    refine Eight.ext_get fun m => ?_
    rw [Eight.get_ofFn, Eight.get_set]
    by_cases h : m = n <;> simp [h]
  rw [failScans, hown, hchanged]
  rfl

/-- Settles O16: the failed scan as a slot event of its slot, with the records it leaves. -/
theorem failedScanUnreadable : Obligations.FailedScanUnreadable := by
  intro n c s hclash t
  have ht : t = slotEvent (fun m => m == n) (s.slots.set n (failedSlot c (s.slots.get n))) [.scanDone n .unreadable] s :=
    failScans_singleton n c s
  have hkey : (failedSlot c (s.slots.get n)).key = none := rfl
  refine ⟨?_, fun m hm => ?_, ?_⟩
  · rw [ht, slotEvent_slots, commitSlots_get, incremented_eq]
    simp [clashOf_of_key_none, failedSlot, discardImage]
  · have hleft := clashOf_set_of_key_none s.slots hkey hm
    rw [← hclash m] at hleft
    have hempties := isEmpty_filter_ne_iff (hclash m ▸ clashOf_nodup s.slots m) n
    rw [ht, slotEvent_get_of_unchanged _ (by simpa using hm) (Eight.get_set_other _ _ hm), hleft]
    by_cases h : (s.slots.get m).clash = [n]
    · simp [h]
    · rw [if_pos (hempties.mpr h), if_neg h]
  · intro reported
    have hgen : ∀ m, ((s.slots.set n (failedSlot c (s.slots.get n))).get m).gen = (s.slots.get m).gen := fun m => by
      rw [Eight.get_set]
      split
      next h => rw [h]; rfl
      next => rfl
    have hreported : reported = staleSlots (incremented (fun m => m == n) s.slots
        (s.slots.set n (failedSlot c (s.slots.get n)))) (raiseAll [.scanDone n .unreadable] s) := by
      rw [← slotEvent_gen_ne [.scanDone n .unreadable] hgen, ← ht]; rfl
    rw [hreported, ht, slotEvent_eq, staleSlots_frame, raiseAll_frame]
    rfl

end Sys2Proof.Machine
end

section
/-! A removal and a completed scan as slot events (R48, R51, R52), with what they report. -/

namespace Sys2Proof.Machine

/-! ### What the end of a removal leaves as it was (R85 to R87) -/

theorem abandonWrite_frame (n : SlotNo) (s : State) :
    abandonWrite n s =
      { s with tx := (abandonWrite n s).tx, inbox := (abandonWrite n s).inbox, inFlight := (abandonWrite n s).inFlight } := by
  unfold abandonWrite
  split
  next =>
    split
    next =>
      split
      next => rw [endTags_frame]
      next => rfl
    next => rfl
    next => rfl
    next => rfl
  next => rfl

theorem purgeJobs_frame (n : SlotNo) (s : State) :
    purgeJobs n s = { s with tx := (purgeJobs n s).tx, inbox := (purgeJobs n s).inbox, jobs := (purgeJobs n s).jobs } := by
  unfold purgeJobs
  rw [endTags_frame]

theorem stopReading_frame (n : SlotNo) (s : State) :
    stopReading n s =
      { s with
        tx := (stopReading n s).tx, inbox := (stopReading n s).inbox, inFlight := (stopReading n s).inFlight
        lineSpeed := (stopReading n s).lineSpeed, bus := (stopReading n s).bus, pulses := (stopReading n s).pulses
        jobs := (stopReading n s).jobs } := by
  unfold stopReading
  split
  next =>
    split
    next =>
      split
      next => rw [markToStop_frame]
      next => rfl
    next =>
      split
      next => rw [markToStop_frame]
      next => rfl
    next => rfl
    next => rfl
  next => rfl

/-- The slot event of a removal (R48). -/
def removalEvent (n : SlotNo) (s : State) : State :=
  slotEvent (fun m => m == n) (s.slots.set n (removedSlot (s.slots.get n))) [.slotRemoved n] s

/-- After its slot event a removal changes the link and the bus alone. -/
theorem removal_frame (n : SlotNo) (s : State) :
    removal n s =
      { removalEvent n s with
        tx := (removal n s).tx, inbox := (removal n s).inbox, inFlight := (removal n s).inFlight
        lineSpeed := (removal n s).lineSpeed, bus := (removal n s).bus, pulses := (removal n s).pulses
        jobs := (removal n s).jobs } := by
  rw [removal, stopReading_frame, purgeJobs_frame, abandonWrite_frame]
  rfl

@[simp] theorem removal_slots (n : SlotNo) (s : State) : (removal n s).slots = (removalEvent n s).slots := by
  rw [removal_frame]

/-- The records of a removal keep their generations before the event's increments. -/
theorem removedSlot_gen (v : Eight Slot) (n m : SlotNo) :
    ((v.set n (removedSlot (v.get n))).get m).gen = (v.get m).gen := by
  rw [Eight.get_set]
  split
  next h => rw [h]; rfl
  next => rfl

/-- A clash set after a removal, for the slots that stay: the others with the same key. -/
theorem clashOf_removed (v : Eight Slot) {n m : SlotNo} (hm : m ≠ n) :
    clashOf (v.set n (removedSlot (v.get n))) m =
      allSlots.filter fun k => k != m && k != n && (v.get m).key.isSome && (v.get k).key == (v.get m).key := by
  have hkey : (removedSlot (v.get n)).key = none := rfl
  rw [clashOf_set_of_key_none v hkey hm]
  cases h : (v.get m).key with
  | none => simp [clashOf_of_key_none h]
  | some key =>
    rw [clashOf_of_key_some h, List.filter_filter]
    refine List.filter_congr fun k _ => ?_
    rw [Option.isSome_some, Bool.and_true, Bool.and_right_comm, Bool.and_comm]

/-- Settles O7: the removal as a slot event of its slot, and what it leaves alone. -/
theorem removalEmptiesTheSlot : Obligations.RemovalEmptiesTheSlot := by
  intro n s hrun hoccupied
  have hexec : exec (.presenceHigh n) s = .next (removal n { s with pres := s.pres.set n true }) := by
    rw [exec_presenceHigh n hrun, presenceHigh_of_occupied (by exact hoccupied)]
  refine ⟨_, hexec, ?_, fun m hm => ?_, ?_, ?_⟩
  · rw [removal_slots, removalEvent, slotEvent_slots, commitSlots_get, incremented_eq]
    simp [clashOf_of_key_none, removedSlot, discardImage]
  · rw [← clashOf_removed s.slots hm, removal_slots, removalEvent,
      slotEvent_get_of_unchanged _ (by simpa using hm) (Eight.get_set_other _ _ hm)]
  · have hreported : staleSlots (fun m =>
        ((removal n { s with pres := s.pres.set n true }).slots.get m).gen != (s.slots.get m).gen)
          (raise (.slotRemoved n) s) =
        staleSlots (incremented (fun m => m == n) s.slots (s.slots.set n (removedSlot (s.slots.get n))))
          (raiseAll [.slotRemoved n] s) := by
      rw [← slotEvent_gen_ne (s := { s with pres := s.pres.set n true }) [.slotRemoved n] (removedSlot_gen s.slots n),
        removal_slots]
      rfl
    have hpres : ({ s with pres := s.pres.set n true } : State) = atModules (s.pres.set n true) s.slots s := rfl
    rw [hreported, removal_frame, removalEvent, slotEvent_eq, hpres, raiseAll_atModules, staleSlots_atModules]
    exact ⟨rfl, rfl, rfl, rfl⟩
  · rw [removal_frame, removalEvent, slotEvent_frame]

/-! ### The completion of a scan (R51, R52) -/

/-- With 240 bytes read the next segment of an unmarked SCAN completes it with all 256 bytes. -/
theorem exec_segmentDone_last {n : SlotNo} {f : InFlight} {bytes : List Byte} {s : State} (hf : s.inFlight = some f)
    (hwork : f.job.work = .scan n) (hactivity : f.activity = .transaction) (hmark : f.stopMark = false)
    (hbytes : bytes.length = 16) (hread : f.bytesRead.length = 240) :
    exec (.segmentDone bytes) s = .next (scanCompletion n f (f.bytesRead ++ bytes) s) := by
  have hlength : (f.bytesRead ++ bytes).length = 256 := by rw [List.length_append, hread, hbytes]
  simp [exec, execSegmentDone, hf, hwork, hactivity, hbytes, segmentLength, segmentEnd, hmark, hlength,
    List.take_of_length_le (Nat.le_of_eq hlength)]

/-- The records of a completed scan before the event's clash sets and increments. -/
def scannedSlots (n : SlotNo) (img : List Byte) (v : Eight Slot) : Eight Slot := v.set n (scannedSlot img (v.get n))

@[simp] theorem scannedSlot_gen (img : List Byte) (r : Slot) : (scannedSlot img r).gen = r.gen := by rw [scannedSlot]

theorem scannedSlots_gen (v : Eight Slot) (n m : SlotNo) (img : List Byte) :
    ((scannedSlots n img v).get m).gen = (v.get m).gen := by
  rw [scannedSlots, Eight.get_set]
  split
  next h => rw [h, scannedSlot_gen]
  next => rfl

/-- The slots a completed scan increments on its own account (R52). -/
def scanOwn (n : SlotNo) (img : List Byte) (s : State) (m : SlotNo) : Bool := m == n && scanIncrements (s.slots.get n) img

theorem completeScan_eq (n : SlotNo) (img : List Byte) (s : State) :
    completeScan n img s =
      slotEvent (scanOwn n img s) (scannedSlots n img s.slots)
        (scanNotices n (s.slots.get n) img (clashOf (scannedSlots n img s.slots) n)) s := rfl

/-- The clash set of a slot that has been scanned: the other slots that hold the key of its image. -/
theorem clashOf_scanned (v : Eight Slot) (n : SlotNo) (img : List Byte) :
    clashOf (scannedSlots n img v) n = allSlots.filter fun m => m != n && (v.get m).key == some (validate img).key := by
  have hkey : ((scannedSlots n img v).get n).key = some (validate img).key := by rw [scannedSlots, Eight.get_set_same]; rfl
  rw [clashOf_of_key_some hkey]
  refine List.filter_congr fun m _ => ?_
  by_cases hm : m = n
  · simp [hm]
  · rw [scannedSlots, Eight.get_set_other v _ hm]

/-- The record of the slot that has been scanned. -/
theorem completeScan_get_same (n : SlotNo) (img : List Byte) (s : State) :
    (completeScan n img s).slots.get n =
      { scannedSlot img (s.slots.get n) with
        clash := clashOf (scannedSlots n img s.slots) n
        gen := if scanIncrements (s.slots.get n) img ||
            ((s.slots.get n).clash.isEmpty != (clashOf (scannedSlots n img s.slots) n).isEmpty) then
          (s.slots.get n).gen + 1 else (s.slots.get n).gen } := by
  rw [completeScan_eq, slotEvent_slots, commitSlots_get, incremented_eq, scanOwn]
  simp [scannedSlots, scannedSlot]

theorem completeScan_get_other {n m : SlotNo} (img : List Byte) (s : State) (hm : m ≠ n) :
    (completeScan n img s).slots.get m =
      { s.slots.get m with
        clash := clashOf (scannedSlots n img s.slots) m
        gen := if (s.slots.get m).clash.isEmpty = (clashOf (scannedSlots n img s.slots) m).isEmpty then
          (s.slots.get m).gen else (s.slots.get m).gen + 1 } :=
  slotEvent_get_of_unchanged _ (by simp [hm]) (Eight.get_set_other _ _ hm)

/-- The completion of a SCAN leaves the records of its slot event. -/
@[simp] theorem scanCompletion_slots (n : SlotNo) (f : InFlight) (img : List Byte) (s : State) :
    (scanCompletion n f img s).slots = (completeScan n img s).slots := by
  simp [scanCompletion]

/-- A completion's notices and entries, told by the slots whose generation it changed. -/
theorem completeScan_reported (n : SlotNo) (img : List Byte) (s : State) :
    completeScan n img s =
      atModules s.pres (completeScan n img s).slots
        (staleSlots (fun m => ((completeScan n img s).slots.get m).gen != (s.slots.get m).gen)
          (raiseAll (scanNotices n (s.slots.get n) img (clashOf (scannedSlots n img s.slots) n)) s)) := by
  have hhit := slotEvent_gen_ne (own := scanOwn n img s) (s := s)
    (scanNotices n (s.slots.get n) img (clashOf (scannedSlots n img s.slots) n))
    (fun m => scannedSlots_gen s.slots n m img)
  rw [← completeScan_eq] at hhit
  rw [hhit, completeScan_eq, slotEvent_eq]
  rfl

/-- The entries a slot event's staleness leaves do not depend on the notices raised before it. -/
theorem staleSlots_entries (hit : SlotNo → Bool) (s : State) : (staleSlots hit s).entries = s.entries.map (staleEntry hit) := by
  simp [staleSlots]

/-- The conditions of R52 that are the slot's own, read as the rule states them. -/
theorem scanIncrements_iff (old : Slot) (img : List Byte) :
    scanIncrements old img = true ↔
      old.image = none ∨ (old.image.any fun c => c.bytes.take 176 != img.take 176) = true ∨
        old.state ≠ (validate img).classification := by
  cases h : old.image <;> simp [scanIncrements, coveredDiffer, h]

/-- Settles O12: the completion as a slot event of its slot, then the replies and the end of the job. -/
theorem lastSegmentCompletesTheScan : Obligations.LastSegmentCompletesTheScan := by
  intro n f bytes s hf hwork hactivity hmark hbytes hread
  refine ⟨_, exec_segmentDone_last hf hwork hactivity hmark hbytes hread, ?_⟩
  intro img v old others
  have hothers : clashOf (scannedSlots n img s.slots) n = others := clashOf_scanned s.slots n img
  have hslots : (scanCompletion n f img s).slots = (completeScan n img s).slots := scanCompletion_slots n f img s
  have hkeys (k : SlotNo) :
      ((completeScan n img s).slots.get k).key = ((scannedSlots n img s.slots).get k).key := by
    rw [completeScan_eq, slotEvent_slots, commitSlots_get]
  refine ⟨?_, fun m hm => ⟨clashOf (scannedSlots n img s.slots) m, ?_, fun k => ?_⟩, ?_, ?_, ?_⟩
  · have hgen : (scanIncrements old img || (old.clash.isEmpty != others.isEmpty)) = true ↔
        old.image = none ∨ (old.image.any fun c => c.bytes.take 176 != img.take 176) = true ∨
          old.state ≠ v.classification ∨ old.clash.isEmpty ≠ others.isEmpty := by
      rw [Bool.or_eq_true, scanIncrements_iff, bne_iff_ne, or_assoc, or_assoc]
    rw [hslots, completeScan_get_same, hothers, scannedSlot, if_congr hgen rfl rfl]
  · rw [hslots]
    exact completeScan_get_other img s hm
  · rw [hslots, hkeys, hkeys]
    exact mem_clashOf
  · have hentries : (scanCompletion n f img s).entries = (completeScan n img s).entries := by simp [scanCompletion]
    rw [hslots, hentries, completeScan_reported, staleSlots_entries]
    exact (staleSlots_entries _ _).trans (by rw [raiseAll_entries]; rfl)
  · rw [scanCompletion, finishJob_frame, endTags_frame, completeScan_frame]
  · rcases finishJob_cases (endTags .ok (rescanPayload ((completeScan n img s).slots.get n)) f.job.tags
      (completeScan n img s)) with ⟨_, hjobs, hflight, hbus⟩ | ⟨j, hjobs, hflight, _⟩
    · exact .inl ⟨hjobs, hflight, hbus⟩
    · rw [endTags_jobs, completeScan_jobs] at hjobs
      exact .inr ⟨j, hjobs, hflight⟩

end Sys2Proof.Machine
end

section
/-! What a completed scan replies and raises (R52, R75, R141). -/

namespace Sys2Proof.Machine

/-- Where the claims agree with the inbox no host tag is on the bus jobs twice, and each is outstanding. -/
theorem busTags_claimed {s : State} (hlink : LinkInv s) (hclaims : ClaimInv s) :
    (busTags s).Nodup ∧ ∀ g ∈ busTags s, g ∈ s.inbox.map Outstanding.tag := by
  obtain ⟨_, _, hdistinct, _, _⟩ := hlink
  have hsub : (claimTags .busJob s).Sublist (s.inbox.map Outstanding.tag) := List.filter_sublist.map _
  exact ⟨hclaims.1.nodup_iff.mpr (hdistinct.sublist hsub), fun g hg => hsub.subset (hclaims.1.subset hg)⟩

/-- The tags of the job in flight are among the host tags on bus jobs. -/
theorem flightTags_sublist {s : State} {f : InFlight} (hf : s.inFlight = some f) : f.job.tags.Sublist (busTags s) := by
  rw [busTags, hf]
  exact List.sublist_append_right _ _

/-- The tags of the job in flight, ended together, are replied in joining order. -/
theorem endTags_flight {s u : State} {f : InFlight} (hlink : LinkInv s) (hclaims : ClaimInv s) (hf : s.inFlight = some f)
    (hu : u.inbox = s.inbox) (st : Status) (payload : List Byte) :
    endTags st payload f.job.tags u = repliedTags st payload f.job.tags u := by
  obtain ⟨hnodup, hclaimed⟩ := busTags_claimed hlink hclaims
  have hsub := flightTags_sublist hf
  obtain ⟨_, _, hdistinct, _, _⟩ := hlink
  refine endTags_replied st payload _ u (hnodup.sublist hsub) (hu ▸ hdistinct) fun g hg => ?_
  rw [hu]
  exact hclaimed g (hsub.subset hg)

/-- The notices a completed scan raises of its own, read as R52 and R39 state them. -/
theorem scanNotices_eq (n : SlotNo) (old : Slot) (img : List Byte) (newClash : List SlotNo) :
    scanNotices n old img newClash =
      (if old.key ≠ none ∧ old.key ≠ some (validate img).key then [.moduleReplaced n] else []) ++
        [.scanDone n (validate img).classification] ++
        (if old.clash = [] then (newClash.head?.map (NoticeBody.duplicateIdentity n)).toList else []) := by
  have hreplaced : keyReplaced old img = true ↔ old.key ≠ none ∧ old.key ≠ some (validate img).key := by
    cases h : old.key <;> simp [keyReplaced, validate, h]
  rw [scanNotices, if_congr hreplaced rfl rfl]
  congr 1
  by_cases h : old.clash = []
  · cases hhead : newClash.head? <;> simp [newPartner, h, hhead]
  · simp [newPartner, h]

theorem completeScan_state (n : SlotNo) (img : List Byte) (s : State) :
    ((completeScan n img s).slots.get n).state = (validate img).classification := by
  rw [completeScan_get_same, scannedSlot]

/-- Settles O13: the replies of the job's tags, and the notices of the slot event. -/
theorem completedScanReports : Obligations.CompletedScanReports := by
  intro n f bytes s hinv hf hwork hactivity hmark hbytes hread
  refine ⟨_, exec_segmentDone_last hf hwork hactivity hmark hbytes hread, ?_⟩
  generalize f.bytesRead ++ bytes = img
  intro v old replied
  have hslots := scanCompletion_slots n f img s
  have hpayload : rescanPayload ((completeScan n img s).slots.get n) =
      slotStateCode v.classification :: le2 ((scanCompletion n f img s).slots.get n).gen.toNat := by
    rw [rescanPayload, completeScan_state, hslots]
  have hcompletion : scanCompletion n f img s =
      finishJob (repliedTags .ok (slotStateCode v.classification ::
        le2 ((scanCompletion n f img s).slots.get n).gen.toNat) f.job.tags (completeScan n img s)) := by
    rw [← hpayload, ← endTags_flight hinv.link hinv.claims hf (completeScan_inbox _ _ _)]
    rfl
  refine ⟨?_, ?_, ?_⟩
  · rw [hcompletion, finishJob_tx]
    simp only [replied, repliedTags, completeScan_tx, kindOf, completeScan_inbox]
  · rw [hcompletion, finishJob_inbox]
    simp only [replied, repliedTags, completeScan_inbox]
  · intro own reported
    have hown : own = scanNotices n old img (clashOf (scannedSlots n img s.slots) n) := by
      rw [scanNotices_eq, show clashOf (scannedSlots n img s.slots) n = ((scanCompletion n f img s).slots.get n).clash by
        rw [hslots, completeScan_get_same]]
    have hreported : completeScan n img s = atModules s.pres (completeScan n img s).slots reported := by
      rw [completeScan_reported, ← hown, ← hslots]
      rfl
    have hnotices : (scanCompletion n f img s).notices = (completeScan n img s).notices := by simp [scanCompletion]
    have hseq : (scanCompletion n f img s).nextSeq = (completeScan n img s).nextSeq := by simp [scanCompletion]
    have halert : (scanCompletion n f img s).alertN = (completeScan n img s).alertN := by simp [scanCompletion]
    rw [hnotices, hseq, halert, hreported]
    exact ⟨rfl, rfl, rfl⟩

end Sys2Proof.Machine
end

section
/-! The Slot Table's invariant, record by record: each change a slot record can go through keeps it in agreement with its state
and with the Validator's verdict on its copy (R23, R41, R42, R47, R57, R60). -/

namespace Sys2Proof.Machine

/-! ### The Validator reads nothing of the user area (R23, R57) -/

theorem imageByte_take {img : List Byte} {k n : Nat} (h : k < n) : imageByte (img.take n) k = imageByte img k := by
  simp [imageByte, List.getD_eq_getElem?_getD, List.getElem?_take_of_lt h]

theorem window_take {img : List Byte} {off len n : Nat} (h : off + len ≤ n) :
    window (img.take n) off len = window img off len := by
  rw [window, window, List.drop_take, List.take_take, Nat.min_eq_left (by omega)]

theorem computedCheck_take (img : List Byte) : computedCheck (img.take 208) = computedCheck img := by
  have hlength : coveredLength (img.take 208) = coveredLength img := by
    rw [coveredLength, identityCovered, imageByte_take (by decide)]; rfl
  have hbound : coveredLength img ≤ 208 := by rw [coveredLength]; split <;> decide
  rw [computedCheck, hlength, List.take_take, Nat.min_eq_left hbound, computedCheck]

theorem latencyList_take (img : List Byte) : latencyList (img.take 208) = latencyList img := by
  have hcount : latencyCount (img.take 208) = latencyCount img := by rw [latencyCount, imageByte_take (by decide)]; rfl
  rw [latencyList, latencyList, hcount]
  split
  next h => rw [window_take (by omega)]
  next => rfl

theorem times_take (img : List Byte) : times (img.take 208) = times img := by
  simp (disch := decide) only [times, grain, effectiveTime, coarse, fine, fineOffset, imageWord, imageByte_take]

theorem modClass_take (img : List Byte) : modClass (img.take 208) = modClass img := by
  rw [modClass, imageByte_take (by decide), modClass]

theorem imageFaults_take (img : List Byte) : imageFaults (img.take 208) = imageFaults img := by
  have hformat : checkFormat (img.take 208) = checkFormat img := by
    simp (disch := decide) only [checkFormat, majorRevision, memKind, modClass_take, imageByte_take]
  have horganisation : checkOrganisation (img.take 208) = checkOrganisation img := by
    simp (disch := decide) only [checkOrganisation, dataWidth, rankCount, imageByte_take]
  have hrefresh : checkRefresh (img.take 208) = checkRefresh img := by
    simp (disch := decide) only [checkRefresh, refreshBase, extRange, extNative, imageWord, imageByte_take]
    rfl
  have hbudget : checkBudget (img.take 208) = checkBudget img := by
    simp (disch := decide) only [checkBudget, budget, imageByte_take]
  have hbuffered : checkBuffered (img.take 208) = checkBuffered img := by
    simp (disch := decide) only [checkBuffered, modClass_take, bufferKindKnown, drives, imageByte_take]
  have hmakers : checkMakers (img.take 208) = checkMakers img := by
    simp (disch := decide) only [checkMakers, makerBank, bufferBank, modClass_take, imageByte_take]
  have hdates : checkDates (img.take 208) = checkDates img := by
    simp (disch := decide) only [checkDates, yearByte, weekByte, imageByte_take]
    rfl
  have htext : checkText (img.take 208) = checkText img := by
    rw [checkText, partText, window_take (by decide), checkText, partText]
  have hstored : storedCheck (img.take 208) = storedCheck img := by
    simp (disch := decide) only [storedCheck, imageWord, imageByte_take]
  rw [imageFaults, checkCrc, computedCheck_take, hstored, hformat, horganisation, checkTimes, times_take, checkLatencies,
    latencyList_take, hrefresh, hbudget, hbuffered, hmakers, hdates, htext]
  rfl

theorem validate_take (img : List Byte) : validate (img.take 208) = validate img := by
  simp (disch := decide) only [validate, imageFaults_take, identityKey, makerBank, yearByte, weekByte, imageByte_take]

/-- Bytes written from offset 208 on leave the verdict as it was. -/
theorem validate_overlay (bs data : List Byte) {off : Nat} (h : 208 ≤ off) : validate (overlay bs off data) = validate bs := by
  rw [← validate_take, overlay_take bs off data 208 h, validate_take]

/-- The Validator classifies: its verdict is VALID, SUSPECT or UNUSABLE. -/
theorem validate_classified (img : List Byte) : classified (validate img).classification = true := by
  rw [validate_classification, classify_eq]
  split
  next => rfl
  next => split <;> rfl

theorem occupied_of_classified {st : SlotState} (h : classified st = true) : occupied st = true := by
  revert h; cases st <;> decide

/-! ### A record and its changes -/

/-- A slot that holds a copy shows the verdict on it. -/
def ShowsVerdict (r : Slot) (c : ImageCopy) : Prop :=
  r.state = (validate c.bytes).classification ∧ r.faults = (validate c.bytes).faults ∧
    r.more = (validate c.bytes).more ∧ r.key = some (validate c.bytes).key

/-- What SlotInv and VerdictInv say of one slot record; generation and clash set do not enter. -/
structure RecordOk (r : Slot) : Prop where
  fields : SlotOk r
  copy : ∀ c, r.image = some c → CopyOk c ∧ ShowsVerdict r c

theorem slotInv_verdictInv_iff (s : State) : SlotInv s ∧ VerdictInv s ↔ ∀ n, RecordOk (s.slots.get n) :=
  ⟨fun ⟨hslots, hverdict⟩ n => ⟨(hslots n).1, fun c hc => ⟨(hslots n).2 c hc, hverdict n c hc⟩⟩,
    fun h => ⟨fun n => ⟨(h n).fields, fun c hc => ((h n).copy c hc).1⟩, fun n c hc => ((h n).copy c hc).2⟩⟩

section Changes
variable {r : Slot}

/-- Clash set and generation take no part. -/
theorem RecordOk.of_clash_gen (h : RecordOk r) (clash : List SlotNo) (gen : Word16) :
    RecordOk { r with clash := clash, gen := gen } := ⟨h.fields, h.copy⟩

theorem recordOk_slotReset : RecordOk slotReset := ⟨slotOk_slotReset, fun _ hc => nomatch hc⟩

/-- An unoccupied slot holds no copy, no key, no faults and no overrides. -/
theorem SlotOk.of_not_occupied (h : SlotOk r) (hst : occupied r.state = false) :
    r.image = none ∧ r.key = none ∧ r.faults = [] ∧ r.more = false ∧ r.overrides = [] := by
  obtain ⟨_, _, _, _, himage, hkey, hfaults, _, _, _, hoverrides⟩ := h
  have hclassified : classified r.state = false :=
    Bool.eq_false_iff.mpr fun hc => by rw [occupied_of_classified hc] at hst; exact nomatch hst
  have hnone : r.image = none := by simpa [hclassified] using himage
  exact ⟨hnone, by simpa [hnone] using hkey, (hfaults hnone).1, (hfaults hnone).2, hoverrides hst⟩

/-- R44: an EMPTY slot goes to SETTLING with a settle time in range. -/
theorem RecordOk.settling (h : RecordOk r) (hst : r.state = .empty) {ms : Nat} (hms : settleTimeOk ms = true) :
    RecordOk { r with state := .settling, settle := some ms } := by
  obtain ⟨himage, hkey, hfaults, hmore, hoverrides⟩ := h.fields.of_not_occupied (by rw [hst]; rfl)
  obtain ⟨hpresent, _, _, hcause, _⟩ := h.fields
  refine ⟨?_, fun c hc => absurd hc (by simp [himage])⟩
  simp_all [SlotOk, occupied, classified]

/-- R45: nothing was inserted after all. -/
theorem RecordOk.emptied (h : RecordOk r) (hst : r.state = .settling) :
    RecordOk { r with state := .empty, settle := none } := by
  obtain ⟨himage, hkey, hfaults, hmore, hoverrides⟩ := h.fields.of_not_occupied (by rw [hst]; rfl)
  obtain ⟨hpresent, _, _, hcause, _⟩ := h.fields
  refine ⟨?_, fun c hc => absurd hc (by simp [himage])⟩
  simp_all [SlotOk, occupied, classified]

/-- R46: the settle time ends. -/
theorem RecordOk.inserted (h : RecordOk r) (hst : r.state = .settling) (faulted : Bool) :
    RecordOk (insertedSlot faulted r) := by
  obtain ⟨himage, hkey, hfaults, hmore, hoverrides⟩ := h.fields.of_not_occupied (by rw [hst]; rfl)
  obtain ⟨_, _, _, hcause, _⟩ := h.fields
  cases faulted <;> refine ⟨?_, fun c hc => absurd hc (by simp [insertedSlot, himage])⟩ <;>
    simp_all [SlotOk, insertedSlot, occupied, classified]

/-- The settle timer of a slot with a module is stopped. -/
theorem SlotOk.settle_of_occupied (h : SlotOk r) (hst : occupied r.state = true) : r.settle = none := by
  obtain ⟨_, hsettle, _⟩ := h
  cases hms : r.settle with
  | none => rfl
  | some ms =>
    have hsettling := hsettle.mp (by rw [hms]; rfl)
    rw [hsettling] at hst
    exact nomatch hst

/-- R48: the module is gone. -/
theorem RecordOk.removed (h : RecordOk r) (hst : occupied r.state = true) : RecordOk (removedSlot r) := by
  have hsettle := h.fields.settle_of_occupied hst
  refine ⟨?_, fun c hc => nomatch hc⟩
  simp [SlotOk, removedSlot, discardImage, occupied, classified, hsettle]

/-- R53: the scan failed. -/
theorem RecordOk.failed (h : RecordOk r) (hst : occupied r.state = true) (c : UnreadableCause) :
    RecordOk (failedSlot c r) := by
  have hsettle := h.fields.settle_of_occupied hst
  obtain ⟨hpresent, _, _, _, _, _, _, hlength, hnodup, hoverrides, _⟩ := h.fields
  refine ⟨?_, fun c hc => nomatch hc⟩
  refine ⟨hpresent.trans hst, by simp [failedSlot, discardImage, hsettle], ?_, by simp [failedSlot, discardImage],
    rfl, rfl, fun _ => ⟨rfl, rfl⟩, hlength, hnodup, hoverrides, fun hst => nomatch hst⟩
  simp [failedSlot, discardImage, hsettle]

/-- R51: the scan completed. -/
theorem RecordOk.scanned (h : RecordOk r) (hst : occupied r.state = true) {img : List Byte} (himg : img.length = 256) :
    RecordOk (scannedSlot img r) := by
  have hsettle := h.fields.settle_of_occupied hst
  obtain ⟨hpresent, _, _, _, _, _, _, hlength, hnodup, hoverrides, _⟩ := h.fields
  have hclassified := validate_classified img
  have hoccupied := occupied_of_classified hclassified
  rw [scannedSlot]
  generalize hv : validate img = v at hclassified hoccupied ⊢
  have hsettling : v.classification ≠ .settling := fun h => by rw [h] at hoccupied; exact nomatch hoccupied
  have hunreadable : v.classification ≠ .unreadable := fun h => by rw [h] at hclassified; exact nomatch hclassified
  refine ⟨⟨?_, ?_, ?_, ?_, hclassified.symm, rfl, (fun hnone => nomatch hnone), hlength, hnodup, hoverrides, ?_⟩, ?_⟩
  · exact (hpresent.trans hst).trans hoccupied.symm
  · rw [hsettle]
    exact ⟨(fun h => nomatch h), fun h => absurd h hsettling⟩
  · rw [hsettle]
    exact fun _ h => nomatch h
  · exact ⟨(fun h => nomatch h), fun h => absurd h hunreadable⟩
  · rw [hoccupied]
    exact fun h => nomatch h
  · intro c hc
    obtain rfl := Option.some.inj hc
    refine ⟨⟨himg, rfl, rfl⟩, ?_⟩
    rw [ShowsVerdict, hv]
    exact ⟨rfl, rfl, rfl, rfl⟩

/-- R56: a slot lost to the bus is read again. -/
theorem RecordOk.reread (h : RecordOk r) (hst : r.state = .unreadable) :
    RecordOk { r with state := .reading, cause := none } := by
  obtain ⟨hpresent, hsettle, hms, _, himage, hkey, hfaults, hlength, hnodup, hoverrides, _⟩ := h.fields
  rw [hst] at hpresent hsettle himage
  have hnone : r.image = none := Option.isSome_eq_false_iff.mp himage |> Option.isNone_iff_eq_none.mp
  have hstopped : ¬ r.settle.isSome = true := fun h => nomatch hsettle.mp h
  refine ⟨⟨hpresent, by simp [hstopped], hms, by simp, by rw [hnone]; rfl, hkey, hfaults, hlength, hnodup, hoverrides,
    fun h => nomatch h⟩, fun c hc => absurd hc (by simp [hnone])⟩

/-- The user pages of a copy are the last three: marking one leaves the first thirteen marks. -/
theorem CopyOk.of_user_page {c : ImageCopy} (h : CopyOk c) {off : Nat} (hoff : 208 ≤ off) (mark : Bool) {bytes : List Byte}
    (hbytes : bytes.length = 256) : CopyOk { bytes := bytes, marks := c.marks.set (off / 16) mark } := by
  obtain ⟨_, hlength, hmarks⟩ := h
  refine ⟨hbytes, by rw [List.length_set, hlength], ?_⟩
  rw [List.take_set_of_le (by omega)]
  exact hmarks

/-- R57, R79: a copy changed in its user area alone. -/
theorem RecordOk.copyChanged (h : RecordOk r) {change : ImageCopy → ImageCopy}
    (hcopy : ∀ c, CopyOk c → CopyOk (change c)) (hverdict : ∀ c, validate (change c).bytes = validate c.bytes) :
    RecordOk { r with image := r.image.map change } := by
  obtain ⟨hpresent, hsettle, hms, hcause, himage, hkey, hfaults, hrest⟩ := h.fields
  refine ⟨⟨hpresent, hsettle, hms, hcause, by simpa using himage, by simpa using hkey,
    fun hnone => hfaults (by simpa using hnone), hrest⟩, fun c hc => ?_⟩
  obtain ⟨old, hold, rfl⟩ := Option.map_eq_some_iff.mp hc
  obtain ⟨hok, hshows⟩ := h.copy old hold
  rw [ShowsVerdict, hverdict]
  exact ⟨hcopy old hok, hshows⟩

theorem RecordOk.pageWritten (h : RecordOk r) {off : Nat} (hoff : 208 ≤ off) (data : List Byte) :
    RecordOk { r with image := r.image.map (writePage off data) } :=
  h.copyChanged (fun _ hc => hc.of_user_page hoff true (by rw [overlay_length]; exact hc.1))
    fun c => validate_overlay c.bytes data hoff

theorem RecordOk.pageInvalidated (h : RecordOk r) {off : Nat} (hoff : 208 ≤ off) :
    RecordOk { r with image := r.image.map (invalidatePage off) } :=
  h.copyChanged (fun _ hc => hc.of_user_page hoff false hc.1) fun _ => rfl

/-- R58, R59: an override list within its bounds on a slot with a module, or an empty one. -/
theorem RecordOk.overridden (h : RecordOk r) {os : List Override} (hlength : os.length ≤ Config.maxOverrides)
    (hnodup : (os.map Override.param).Nodup) (hos : ∀ o ∈ os, overrideOk o)
    (hst : occupied r.state = false → os = []) : RecordOk { r with overrides := os } := by
  obtain ⟨hpresent, hsettle, hms, hcause, himage, hkey, hfaults, _⟩ := h.fields
  exact ⟨⟨hpresent, hsettle, hms, hcause, himage, hkey, hfaults, hlength, hnodup, hos, hst⟩, h.copy⟩

end Changes

end Sys2Proof.Machine
end

section
/-! What the owner of a request does to the modules and to the claims (R158): most requests leave both as they were. -/

namespace Sys2Proof.Machine

/-- Handle and request tag of an entry: what ties the entry to an outstanding request. -/
def entryClaim (e : Entry) : Byte × Option Byte := (e.handle, requestTag e)

/-- The slot records, the presence levels and RESET_N are as they were. -/
structure SameTable (s t : State) : Prop where
  slots : t.slots = s.slots
  pres : t.pres = s.pres
  reset : t.resetAsserted = s.resetAsserted

/-- Slot Table, bus and inbox are as they were, and no entry has another handle or request tag. -/
structure Quiet (s t : State) : Prop extends SameTable s t where
  bus : t.bus = s.bus
  jobs : t.jobs = s.jobs
  inFlight : t.inFlight = s.inFlight
  inbox : t.inbox = s.inbox
  claims : t.entries.map entryClaim ⊆ s.entries.map entryClaim

theorem SameTable.refl (s : State) : SameTable s s := ⟨rfl, rfl, rfl⟩

theorem SameTable.trans {s t u : State} (h : SameTable s t) (h' : SameTable t u) : SameTable s u :=
  ⟨h'.slots.trans h.slots, h'.pres.trans h.pres, h'.reset.trans h.reset⟩

theorem Quiet.trans {s t u : State} (h : Quiet s t) (h' : Quiet t u) : Quiet s u :=
  ⟨h.toSameTable.trans h'.toSameTable, h'.bus.trans h.bus, h'.jobs.trans h.jobs, h'.inFlight.trans h.inFlight,
    h'.inbox.trans h.inbox, List.Subset.trans h'.claims h.claims⟩

/-- A change to none of these fields is quiet. -/
theorem quiet_of_eq {s t : State} (hslots : t.slots = s.slots) (hpres : t.pres = s.pres)
    (hreset : t.resetAsserted = s.resetAsserted) (hbus : t.bus = s.bus) (hjobs : t.jobs = s.jobs)
    (hflight : t.inFlight = s.inFlight) (hinbox : t.inbox = s.inbox) (hentries : t.entries = s.entries) : Quiet s t :=
  ⟨⟨hslots, hpres, hreset⟩, hbus, hjobs, hflight, hinbox, by rw [hentries]; exact List.Subset.refl _⟩

theorem quiet_answer (tag kind : Byte) (st : Status) (payload : List Byte) (s : State) :
    Quiet s (answer tag kind st payload s) := quiet_of_eq rfl rfl rfl rfl rfl rfl rfl rfl

theorem quiet_refuse (tag kind : Byte) (st : Status) (s : State) : Quiet s (refuse tag kind st s) := quiet_answer _ _ _ _ _

theorem quiet_raiseAll (bs : List NoticeBody) (s : State) : Quiet s (raiseAll bs s) :=
  quiet_of_eq (by simp) (by simp) (by simp) (by simp) (by simp) (by simp) (by simp) (by simp)

theorem quiet_raise (b : NoticeBody) (s : State) : Quiet s (raise b s) := quiet_raiseAll [b] s

/-! ### Entries -/

/-- Staleness keeps handle and request tag of an entry. -/
theorem entryClaim_staleEntry (hit : SlotNo → Bool) (e : Entry) : entryClaim (staleEntry hit e) = entryClaim e := by
  cases h : e.state with
  | valid sn p =>
    simp only [staleEntry, h]
    split
    next => simp [entryClaim, requestTag, h]
    next => rfl
  | _ => simp [staleEntry, h]

theorem entryClaim_staleByTarget (e : Entry) : entryClaim (staleByTarget e) = entryClaim e := by
  cases h : e.state <;> simp [staleByTarget, entryClaim, requestTag, h]

theorem quiet_staleSlots (hit : SlotNo → Bool) (s : State) : Quiet s (staleSlots hit s) := by
  have hstale : Quiet s { s with entries := s.entries.map (staleEntry hit) } := by
    refine ⟨⟨rfl, rfl, rfl⟩, rfl, rfl, rfl, rfl, ?_⟩
    rw [List.map_map, show entryClaim ∘ staleEntry hit = entryClaim from funext (entryClaim_staleEntry hit)]
    exact List.Subset.refl _
  exact hstale.trans (quiet_raiseAll _ _)

theorem quiet_staleAll (s : State) : Quiet s (staleAll s) := by
  have hstale : Quiet s { s with entries := s.entries.map staleByTarget } := by
    refine ⟨⟨rfl, rfl, rfl⟩, rfl, rfl, rfl, rfl, ?_⟩
    rw [List.map_map, show entryClaim ∘ staleByTarget = entryClaim from funext entryClaim_staleByTarget]
    exact List.Subset.refl _
  exact hstale.trans (quiet_raiseAll _ _)

/-- An entry put in the place of one that holds its handle and request tag brings no new claim. -/
theorem setEntry_claims {h : Byte} {e : Entry} {s : State} (he : entryClaim e ∈ s.entries.map entryClaim) :
    (setEntry h e s).entries.map entryClaim ⊆ s.entries.map entryClaim := by
  intro c hc
  obtain ⟨x, hx, rfl⟩ := List.mem_map.mp hc
  obtain ⟨y, hy, rfl⟩ := List.mem_map.mp hx
  split
  next => exact he
  next => exact List.mem_map_of_mem hy

theorem quiet_setEntry {h : Byte} {e : Entry} {s : State} (he : entryClaim e ∈ s.entries.map entryClaim) :
    Quiet s (setEntry h e s) := ⟨⟨rfl, rfl, rfl⟩, rfl, rfl, rfl, rfl, setEntry_claims he⟩

theorem entryAt_mem {s : State} {h : Byte} {e : Entry} (he : entryAt s h = some e) : e ∈ s.entries :=
  List.mem_of_find?_eq_some he

/-- The hand-over brings no new claim. -/
theorem quiet_handOver (s : State) : Quiet s (handOver s) := by
  refine ⟨⟨by simp, by simp, by simp⟩, by simp, by simp, by simp, by simp, ?_⟩
  unfold handOver
  split
  next e _ hfind =>
    have he := List.mem_of_find?_eq_some hfind
    split
    next t ht =>
      refine setEntry_claims (s := { s with work := some (takeInputs s e.request) }) ?_
      have hclaim : entryClaim { e with state := .building t (takeSnapshot s e.request) } = entryClaim e := by
        simp [entryClaim, requestTag, ht]
      rw [hclaim]
      exact List.mem_map_of_mem he
    all_goals exact List.Subset.refl _
  next => exact List.Subset.refl _
  next => exact List.Subset.refl _

/-! ### The owners -/

section Owners
variable (tag kind : Byte) (payload : List Byte) (s : State)

theorem quiet_ownInfo : Quiet s (ownInfo tag payload s) := quiet_answer ..

theorem quiet_ownConfigure : Quiet s (ownConfigure tag payload s) := by
  unfold ownConfigure
  split
  next => exact quiet_refuse ..
  next c _ =>
    have hset : Quiet s (updateAlert { s with config := c }) := quiet_of_eq rfl rfl rfl rfl rfl rfl rfl rfl
    exact hset.trans (quiet_answer ..)

theorem quiet_ownSetTarget : Quiet s (ownSetTarget tag payload s) := by
  unfold ownSetTarget
  split
  next => exact quiet_refuse ..
  next target _ =>
    split
    next => exact quiet_refuse ..
    next =>
      have hreplaced : Quiet s { s with target := target, targetGen := s.targetGen + 1 } :=
        quiet_of_eq rfl rfl rfl rfl rfl rfl rfl rfl
      exact (hreplaced.trans (quiet_staleAll _)).trans (quiet_answer ..)

theorem quiet_ownGetTarget : Quiet s (ownGetTarget tag payload s) := quiet_answer ..

theorem quiet_ownSetLadder : Quiet s (ownSetLadder tag payload s) := by
  unfold ownSetLadder
  split
  next => exact quiet_refuse ..
  next ps _ =>
    have hset : Quiet s { s with ladder := ps } := quiet_of_eq rfl rfl rfl rfl rfl rfl rfl rfl
    exact hset.trans (quiet_answer ..)

theorem quiet_ownGetLadder : Quiet s (ownGetLadder tag payload s) := quiet_answer ..

theorem quiet_ownListSlots : Quiet s (ownListSlots tag payload s) := quiet_answer ..

theorem quiet_ownGetSlot : Quiet s (ownGetSlot tag payload s) := by
  unfold ownGetSlot
  split
  next => exact quiet_refuse ..
  next =>
    split
    next => exact quiet_refuse ..
    next => exact quiet_answer ..

theorem quiet_ownReadImage : Quiet s (ownReadImage tag payload s) := by
  unfold ownReadImage
  split
  next => exact quiet_refuse ..
  next =>
    split
    next => exact quiet_refuse ..
    next => exact quiet_answer ..

/-- A request that names a handle is refused, or acts on the entry that holds it. -/
theorem quiet_withEntry {act : Entry → State → State} (hact : ∀ e ∈ s.entries, Quiet s (act e s)) :
    Quiet s (withEntry tag kind payload act s) := by
  unfold withEntry
  split
  next => exact quiet_refuse ..
  next =>
    split
    next => exact quiet_refuse ..
    next he => exact hact _ (entryAt_mem he)

/-- Only the applied mark of an entry changes. -/
theorem quiet_setApplied {e : Entry} (he : e ∈ s.entries) (b : Bool) : Quiet s (setEntry e.handle { e with applied := b } s) :=
  quiet_setEntry (show entryClaim e ∈ s.entries.map entryClaim from List.mem_map_of_mem he)

theorem quiet_ownGetProfile : Quiet s (ownGetProfile tag payload s) :=
  quiet_withEntry _ _ _ _ fun _ _ => quiet_answer ..

theorem quiet_ownListProfiles : Quiet s (ownListProfiles tag payload s) := quiet_answer ..

theorem quiet_ownApply : Quiet s (ownApply tag payload s) := by
  refine quiet_withEntry _ _ _ _ fun e he => ?_
  unfold applyEntry
  split
  next => exact quiet_answer ..
  next =>
    split
    next => exact quiet_refuse ..
    next =>
      split
      next => exact quiet_refuse ..
      next => exact (quiet_setApplied s he true).trans (quiet_answer ..)

theorem quiet_ownUnapply : Quiet s (ownUnapply tag payload s) := by
  refine quiet_withEntry _ _ _ _ fun e he => ?_
  unfold unapplyEntry
  split
  next => exact (quiet_setApplied s he false).trans (quiet_answer ..)
  next => exact quiet_refuse ..

theorem quiet_ownFetchNotices : Quiet s (ownFetchNotices tag payload s) := by
  unfold ownFetchNotices
  split
  next => exact quiet_refuse ..
  next m _ =>
    have htaken : Quiet s (updateAlert { s with notices := s.notices.drop m }) :=
      quiet_of_eq rfl rfl rfl rfl rfl rfl rfl rfl
    exact htaken.trans (quiet_answer ..)

/-- What holds after the owners that may change modules or claims, and after everything quiet, holds after every owner. -/
theorem ownerOf_elim {P : State → Prop} (hquiet : ∀ t, Quiet s t → P t)
    (hread : kind = kindReadModule → P (ownReadModule tag payload s))
    (hwrite : kind = kindWriteUser → P (ownWriteUser tag payload s))
    (hrescan : kind = kindRescan → P (ownRescan tag payload s)) (hset : P (ownSetOverride tag payload s))
    (hclear : P (ownClearOverrides tag payload s)) (hresolve : kind = kindResolve → P (ownResolve tag payload s))
    (hdrop : P (ownDrop tag payload s)) (hcancel : P (ownCancel tag payload s))
    (hbus : kind = kindBusReset → P (ownBusReset tag payload s)) (hreset : P (ownReset tag payload s)) :
    P (ownerOf tag kind payload s) := by
  unfold ownerOf
  refine iteInduction (fun _ => hquiet _ (quiet_ownInfo ..)) fun _ => ?_
  refine iteInduction (fun _ => hquiet _ (quiet_ownConfigure ..)) fun _ => ?_
  refine iteInduction (fun _ => hquiet _ (quiet_ownSetTarget ..)) fun _ => ?_
  refine iteInduction (fun _ => hquiet _ (quiet_ownGetTarget ..)) fun _ => ?_
  refine iteInduction (fun _ => hquiet _ (quiet_ownSetLadder ..)) fun _ => ?_
  refine iteInduction (fun _ => hquiet _ (quiet_ownGetLadder ..)) fun _ => ?_
  refine iteInduction (fun _ => hquiet _ (quiet_ownListSlots ..)) fun _ => ?_
  refine iteInduction (fun _ => hquiet _ (quiet_ownGetSlot ..)) fun _ => ?_
  refine iteInduction (fun _ => hquiet _ (quiet_ownReadImage ..)) fun _ => ?_
  refine iteInduction hread fun _ => ?_
  refine iteInduction hwrite fun _ => ?_
  refine iteInduction hrescan fun _ => ?_
  refine iteInduction (fun _ => hset) fun _ => ?_
  refine iteInduction (fun _ => hclear) fun _ => ?_
  refine iteInduction hresolve fun _ => ?_
  refine iteInduction (fun _ => hquiet _ (quiet_ownGetProfile ..)) fun _ => ?_
  refine iteInduction (fun _ => hquiet _ (quiet_ownListProfiles ..)) fun _ => ?_
  refine iteInduction (fun _ => hquiet _ (quiet_ownApply ..)) fun _ => ?_
  refine iteInduction (fun _ => hquiet _ (quiet_ownUnapply ..)) fun _ => ?_
  refine iteInduction (fun _ => hdrop) fun _ => ?_
  refine iteInduction (fun _ => hquiet _ (quiet_ownFetchNotices ..)) fun _ => ?_
  refine iteInduction (fun _ => hcancel) fun _ => ?_
  refine iteInduction hbus fun _ => ?_
  exact iteInduction (fun _ => hreset) fun _ => hquiet s (quiet_of_eq rfl rfl rfl rfl rfl rfl rfl rfl)

end Owners

end Sys2Proof.Machine
end

section
/-! The override requests (R58, R59, R183): the payload they take, the list they leave, the order of their checks. -/

namespace Sys2Proof.Machine

theorem occupied_iff {st : SlotState} : occupied st = true ↔ st ≠ .empty ∧ st ≠ .settling := by simp [occupied]

theorem occupied_eq_false_iff {st : SlotState} : occupied st = false ↔ st = .empty ∨ st = .settling := by
  cases st <;> decide

theorem inAppliedSet_iff {s : State} {n : SlotNo} :
    inAppliedSet s n = true ↔ ∃ e ∈ s.entries, e.applied = true ∧ n ∈ e.request.slots := by simp [inAppliedSet]

theorem inAppliedSet_eq_false_iff {s : State} {n : SlotNo} :
    inAppliedSet s n = false ↔ ∀ e ∈ s.entries, e.applied = true → n ∉ e.request.slots := by
  rw [Bool.eq_false_iff, ne_eq, inAppliedSet_iff]
  push Not
  rfl

/-! ### The payload -/

theorem ofLe3_eq (b0 b1 b2 : Byte) : ofLe3 b0 b1 b2 = b0.toNat + 256 * b1.toNat + 65536 * b2.toNat := rfl

/-- What SET OVERRIDE's payload must be, byte by byte. -/
theorem overrideArg_eq_some_iff {p : List Byte} {n : SlotNo} {o : Override} :
    overrideArg p = some (n, o) ↔ ∃ sl code v0 v1 v2 : Byte, p = [sl, code, v0, v1, v2] ∧ slotArg sl = some n ∧
      overridableArg code = some o.param ∧ o.value = ofLe3 v0 v1 v2 ∧ 1 ≤ o.value ∧ o.value ≤ 1000000 := by
  refine ⟨fun h => ?_, fun ⟨sl, code, v0, v1, v2, hp, hn, hq, hv, hlow, hhigh⟩ => ?_⟩
  · unfold overrideArg at h
    split at h
    next sl code v0 v1 v2 =>
      split at h
      next hn hq =>
        split at h
        next hrange =>
          cases h
          exact ⟨sl, code, v0, v1, v2, rfl, hn, hq, rfl, hrange⟩
        next => exact nomatch h
      next => exact nomatch h
    next => exact nomatch h
  · subst hp
    have hrange : 1 ≤ ofLe3 v0 v1 v2 ∧ ofLe3 v0 v1 v2 ≤ 1000000 := hv ▸ ⟨hlow, hhigh⟩
    simp only [overrideArg, hn, hq]
    rw [if_pos hrange, ← hv]

/-- An overridable code is the code of an overridable parameter. -/
theorem overridableArg_eq_some {code : Byte} {q : Param} (h : overridableArg code = some q) :
    q ∈ overridableParams ∧ paramCode q = code :=
  ⟨List.mem_of_find?_eq_some h, by simpa using List.find?_some h⟩

/-- An override a payload names is one the part accepts. -/
theorem overrideOk_of_overrideArg {p : List Byte} {n : SlotNo} {o : Override} (h : overrideArg p = some (n, o)) :
    overrideOk o := by
  obtain ⟨_, _, _, _, _, _, _, hq, _, hlow, hhigh⟩ := overrideArg_eq_some_iff.mp h
  exact ⟨(overridableArg_eq_some hq).1, hlow, hhigh⟩

theorem overrideArg_bytes (n : SlotNo) {q : Param} {v0 v1 v2 : Byte} (hq : q ∈ overridableParams)
    (hlow : 1 ≤ ofLe3 v0 v1 v2) (hhigh : ofLe3 v0 v1 v2 ≤ 1000000) :
    overrideArg [BitVec.ofNat 8 n.val, paramCode q, v0, v1, v2] = some (n, { param := q, value := ofLe3 v0 v1 v2 }) :=
  overrideArg_eq_some_iff.mpr
    ⟨_, _, v0, v1, v2, rfl, slotArg_slot n, overridableArg_code q hq, rfl, hlow, hhigh⟩

theorem slotArg_eq_some {b : Byte} {n : SlotNo} (h : slotArg b = some n) : b.toNat < 8 := by
  rw [← not_le, ← slotArg_none, h]
  exact fun h => nomatch h

theorem overrideArg_eq_none {p : List Byte}
    (hp : ∀ sl code v0 v1 v2 : Byte, p = [sl, code, v0, v1, v2] →
      8 ≤ sl.toNat ∨ (∀ q ∈ overridableParams, paramCode q ≠ code) ∨
        v0.toNat + 256 * v1.toNat + 65536 * v2.toNat = 0 ∨ 1000000 < v0.toNat + 256 * v1.toNat + 65536 * v2.toNat) :
    overrideArg p = none := by
  refine Option.eq_none_iff_forall_ne_some.mpr fun ⟨n, o⟩ h => ?_
  obtain ⟨sl, code, v0, v1, v2, hbytes, hn, hq, hv, hlow, hhigh⟩ := overrideArg_eq_some_iff.mp h
  rw [hv, ofLe3_eq] at hlow hhigh
  obtain ⟨hmem, hcode⟩ := overridableArg_eq_some hq
  rcases hp sl code v0 v1 v2 hbytes with hsl | hnone | hzero | hlarge
  · exact absurd (slotArg_eq_some hn) (not_lt.mpr hsl)
  · exact hnone _ hmem hcode
  · omega
  · omega

theorem oneSlotArg_slot (n : SlotNo) : oneSlotArg [BitVec.ofNat 8 n.val] = some n := slotArg_slot n

theorem oneSlotArg_eq_none {p : List Byte} (hp : ∀ sl : Byte, p = [sl] → 8 ≤ sl.toNat) : oneSlotArg p = none := by
  unfold oneSlotArg
  split
  next sl => exact (slotArg_none sl).mpr (hp sl rfl)
  next => rfl

/-! ### The list -/

theorem overrides_iff {os : List Override} {q : Param} : overrides os q = true ↔ ∃ o ∈ os, o.param = q := by
  simp [overrides]

theorem overrides_eq_false_iff {os : List Override} {q : Param} : overrides os q = false ↔ ∀ o ∈ os, o.param ≠ q := by
  simp [overrides]

/-- A new parameter is appended. -/
theorem placeOverride_append {o : Override} {os : List Override} (h : ∀ x ∈ os, x.param ≠ o.param) :
    placeOverride o os = os ++ [o] := by
  induction os with
  | nil => rfl
  | cons x xs ih =>
    rw [placeOverride, if_neg (h x List.mem_cons_self), ih fun y hy => h y (List.mem_cons_of_mem x hy)]
    rfl

/-- The value of a parameter in the list is replaced in its place. -/
theorem placeOverride_replace {o old : Override} {front : List Override} (back : List Override)
    (hold : old.param = o.param) (h : ∀ x ∈ front, x.param ≠ o.param) :
    placeOverride o (front ++ old :: back) = front ++ o :: back := by
  induction front with
  | nil => exact if_pos hold
  | cons x xs ih =>
    rw [List.cons_append, placeOverride, if_neg (h x List.mem_cons_self), ih fun y hy => h y (List.mem_cons_of_mem x hy)]
    rfl

/-- A list that has the parameter splits at its first entry for it. -/
theorem overrides_split {os : List Override} {q : Param} (h : overrides os q = true) :
    ∃ front old back, os = front ++ old :: back ∧ old.param = q ∧ ∀ x ∈ front, x.param ≠ q := by
  induction os with
  | nil => exact nomatch h
  | cons x xs ih =>
    by_cases hx : x.param = q
    · exact ⟨[], x, xs, rfl, hx, fun _ hy => nomatch hy⟩
    · obtain ⟨front, old, back, hxs, hold, hfront⟩ := ih (by simpa [overrides, hx] using h)
      exact ⟨x :: front, old, back, by rw [hxs]; rfl, hold, List.forall_mem_cons.mpr ⟨hx, hfront⟩⟩

/-! ### The checks, in their order -/

section Checks
variable {tag : Byte} {payload : List Byte} {n : SlotNo} {o : Override} {s : State}

theorem ownSetOverride_notReady (harg : overrideArg payload = some (n, o))
    (hst : occupied (s.slots.get n).state = false) :
    ownSetOverride tag payload s = refuse tag kindSetOverride .notReady s := by simp [ownSetOverride, harg, hst]

theorem ownSetOverride_inUse (harg : overrideArg payload = some (n, o)) (hst : occupied (s.slots.get n).state = true)
    (hset : inAppliedSet s n = true) : ownSetOverride tag payload s = refuse tag kindSetOverride .inUse s := by
  simp [ownSetOverride, harg, hst, hset]

theorem ownSetOverride_ninth (harg : overrideArg payload = some (n, o)) (hst : occupied (s.slots.get n).state = true)
    (hset : inAppliedSet s n = false) (hnew : overrides (s.slots.get n).overrides o.param = false)
    (hfull : 8 ≤ (s.slots.get n).overrides.length) :
    ownSetOverride tag payload s = refuse tag kindSetOverride .badArgument s := by
  simp [ownSetOverride, harg, hst, hset, hnew, Config.maxOverrides, hfull]

theorem ownSetOverride_accepted (harg : overrideArg payload = some (n, o)) (hst : occupied (s.slots.get n).state = true)
    (hset : inAppliedSet s n = false)
    (hroom : overrides (s.slots.get n).overrides o.param = true ∨ (s.slots.get n).overrides.length < 8) :
    ownSetOverride tag payload s = overrideReply tag kindSetOverride n (acceptOverride n o s) := by
  have hpassed : (!overrides (s.slots.get n).overrides o.param &&
      decide (Config.maxOverrides ≤ (s.slots.get n).overrides.length)) = false := by
    rcases hroom with hheld | hroom
    · simp [hheld]
    · rw [decide_eq_false (by simpa [Config.maxOverrides] using hroom), Bool.and_false]
  simp [ownSetOverride, harg, hst, hset, hpassed]

theorem ownClearOverrides_notReady (harg : oneSlotArg payload = some n) (hst : occupied (s.slots.get n).state = false) :
    ownClearOverrides tag payload s = refuse tag kindClearOverrides .notReady s := by
  simp [ownClearOverrides, harg, hst]

theorem ownClearOverrides_inUse (harg : oneSlotArg payload = some n) (hst : occupied (s.slots.get n).state = true)
    (hset : inAppliedSet s n = true) :
    ownClearOverrides tag payload s = refuse tag kindClearOverrides .inUse s := by
  simp [ownClearOverrides, harg, hst, hset]

theorem ownClearOverrides_accepted (harg : oneSlotArg payload = some n) (hst : occupied (s.slots.get n).state = true)
    (hset : inAppliedSet s n = false) :
    ownClearOverrides tag payload s = overrideReply tag kindClearOverrides n (acceptClear n s) := by
  simp [ownClearOverrides, harg, hst, hset]

end Checks

/-! ### The effect and the reply -/

theorem acceptOverride_equal {n : SlotNo} {o : Override} {s : State} (h : o ∈ (s.slots.get n).overrides) :
    acceptOverride n o s = s := if_pos (List.contains_iff_mem.mpr h)

theorem acceptOverride_changed {n : SlotNo} {o : Override} {s : State} (h : o ∉ (s.slots.get n).overrides) :
    acceptOverride n o s = changeOverrides n (placeOverride o (s.slots.get n).overrides) s :=
  if_neg fun hc => h (List.contains_iff_mem.mp hc)

theorem acceptClear_empty {n : SlotNo} {s : State} (h : (s.slots.get n).overrides = []) : acceptClear n s = s :=
  if_pos (List.isEmpty_iff.mpr h)

theorem acceptClear_changed {n : SlotNo} {s : State} (h : (s.slots.get n).overrides ≠ []) :
    acceptClear n s = changeOverrides n [] s := if_neg fun hc => h (List.isEmpty_iff.mp hc)

/-- The reply after a changed list: the next generation and the count of the new list. -/
theorem overrideReply_changeOverrides (tag kind : Byte) (n : SlotNo) (os : List Override) (s : State) :
    overrideReply tag kind n (changeOverrides n os s) =
      withReply tag kind .ok (le2 ((s.slots.get n).gen + 1).toNat ++ [BitVec.ofNat 8 os.length])
        (staleSlots (fun m => m == n)
          { s with slots := s.slots.set n { s.slots.get n with overrides := os, gen := (s.slots.get n).gen + 1 } }) := by
  rw [overrideReply, answer_eq, overridePayload, changeOverrides, staleSlots_slots, Eight.get_set_same]
  rfl

theorem overrideReply_unchanged (tag kind : Byte) (n : SlotNo) (s : State) :
    overrideReply tag kind n s =
      withReply tag kind .ok
        (le2 (s.slots.get n).gen.toNat ++ [BitVec.ofNat 8 (s.slots.get n).overrides.length]) s := rfl

theorem exec_setOverride {tag : Byte} {s : State} (htaken : Taken s tag 0x16) (p : List Byte) :
    exec (.setOverride tag p) s = .next (ownSetOverride tag p s) :=
  congrArg Host.Outcome.next (acceptFrame_taken _ htaken (by decide))

theorem exec_clearOverrides {tag : Byte} {s : State} (htaken : Taken s tag 0x17) (p : List Byte) :
    exec (.clearOverrides tag p) s = .next (ownClearOverrides tag p s) :=
  congrArg Host.Outcome.next (acceptFrame_taken _ htaken (by decide))

/-- Settles O40: each check in its order, then the list. -/
theorem overrideRequests : Obligations.OverrideRequests := by
  refine ⟨fun tag s htaken => ⟨fun n q v0 v1 v2 hq => ?_, fun p hp => ?_⟩,
    fun tag s htaken => ⟨fun n => ?_, fun p hp => ?_⟩⟩
  · intro value r run hlow hhigh
    have hrun : run = .next _ := exec_setOverride htaken _
    have harg : overrideArg [BitVec.ofNat 8 n.val, paramCode q, v0, v1, v2] = some (n, ⟨q, value⟩) :=
      overrideArg_bytes n hq hlow hhigh
    rw [hrun]
    refine ⟨fun hst => ?_, fun hempty hsettling => ⟨fun hset => ?_, fun hset => ⟨fun hnew hfull => ?_, fun hequal => ?_,
      fun hnew hroom => ?_, fun front back old hsplit hold hother => ?_⟩⟩⟩
    · rw [ownSetOverride_notReady harg (occupied_eq_false_iff.mpr hst), refuse_eq, kindSetOverride]
    · rw [ownSetOverride_inUse harg (occupied_iff.mpr ⟨hempty, hsettling⟩) (inAppliedSet_iff.mpr hset), refuse_eq,
        kindSetOverride]
    · rw [ownSetOverride_ninth harg (occupied_iff.mpr ⟨hempty, hsettling⟩) (inAppliedSet_eq_false_iff.mpr hset)
        (overrides_eq_false_iff.mpr hnew) hfull, refuse_eq, kindSetOverride]
    · have hheld : overrides r.overrides q = true := overrides_iff.mpr ⟨_, hequal, rfl⟩
      rw [ownSetOverride_accepted harg (occupied_iff.mpr ⟨hempty, hsettling⟩) (inAppliedSet_eq_false_iff.mpr hset)
        (.inl hheld), acceptOverride_equal hequal, overrideReply_unchanged, kindSetOverride]
    · have habsent : (⟨q, value⟩ : Override) ∉ r.overrides := fun h => hnew _ h rfl
      rw [ownSetOverride_accepted harg (occupied_iff.mpr ⟨hempty, hsettling⟩) (inAppliedSet_eq_false_iff.mpr hset)
        (.inr hroom), acceptOverride_changed habsent, overrideReply_changeOverrides, placeOverride_append hnew,
        List.length_append, kindSetOverride]
      rfl
    · have hheld : overrides r.overrides q = true := overrides_iff.mpr ⟨⟨q, old⟩, by simp [hsplit], rfl⟩
      have habsent : (⟨q, value⟩ : Override) ∉ r.overrides := by
        rw [hsplit, List.mem_append, List.mem_cons]
        rintro (hfront | hnow | hback)
        · exact hother _ (List.mem_append_left _ hfront) rfl
        · exact hold (congrArg Override.value hnow).symm
        · exact hother _ (List.mem_append_right _ hback) rfl
      have hplaced : placeOverride ⟨q, value⟩ r.overrides = front ++ ⟨q, value⟩ :: back := by
        rw [hsplit]
        exact placeOverride_replace (old := ⟨q, old⟩) back rfl fun x hx => hother x (List.mem_append_left _ hx)
      have hlength : (front ++ (⟨q, value⟩ : Override) :: back).length = r.overrides.length := by simp [hsplit]
      rw [ownSetOverride_accepted harg (occupied_iff.mpr ⟨hempty, hsettling⟩) (inAppliedSet_eq_false_iff.mpr hset)
        (.inl hheld), acceptOverride_changed habsent, overrideReply_changeOverrides, hplaced, hlength, kindSetOverride]
  · rw [exec_setOverride htaken, ownSetOverride, overrideArg_eq_none hp]
    rfl
  · intro r run
    have hrun : run = .next _ := exec_clearOverrides htaken _
    have harg := oneSlotArg_slot n
    rw [hrun]
    refine ⟨fun hst => ?_, fun hempty hsettling => ⟨fun hset => ?_, fun hset => ⟨fun hnone => ?_, fun hsome => ?_⟩⟩⟩
    · rw [ownClearOverrides_notReady harg (occupied_eq_false_iff.mpr hst), refuse_eq, kindClearOverrides]
    · rw [ownClearOverrides_inUse harg (occupied_iff.mpr ⟨hempty, hsettling⟩) (inAppliedSet_iff.mpr hset), refuse_eq,
        kindClearOverrides]
    · rw [ownClearOverrides_accepted harg (occupied_iff.mpr ⟨hempty, hsettling⟩) (inAppliedSet_eq_false_iff.mpr hset),
        acceptClear_empty hnone, overrideReply_unchanged, hnone, kindClearOverrides]
      rfl
    · rw [ownClearOverrides_accepted harg (occupied_iff.mpr ⟨hempty, hsettling⟩) (inAppliedSet_eq_false_iff.mpr hset),
        acceptClear_changed hsome, overrideReply_changeOverrides, kindClearOverrides]
      rfl
  · rw [exec_clearOverrides htaken, ownClearOverrides, oneSlotArg_eq_none hp]
    rfl

end Sys2Proof.Machine
end

section
/-! Demands for SCANs (R50, R69) and the rescans of a recovered bus (R56, R84). -/

namespace Sys2Proof.Machine

/-! ### One demand -/

theorem isScanOf_iff {n : SlotNo} {j : Job} : isScanOf n j = true ↔ j.work = .scan n := by simp [isScanOf]

theorem presenceScanOf_iff {n : SlotNo} {j : Job} : presenceScanOf n j = true ↔ j.work = .scan n ∧ j.presence = true := by
  simp [presenceScanOf, isScanOf_iff]

theorem scanWaiting_iff {s : State} {n : SlotNo} : scanWaiting s n = true ↔ ∃ j ∈ s.jobs, j.work = .scan n := by
  simp [scanWaiting, isScanOf_iff]

/-- The waiting SCAN that takes a claim keeps its place and its work. -/
theorem joinScan_works (n : SlotNo) (p : Bool) (ts : List Byte) (js : List Job) :
    (joinScan n p ts js).map Job.work = js.map Job.work := by
  induction js with
  | nil => rfl
  | cons j js ih =>
    rw [joinScan]
    split
    next => rfl
    next => rw [List.map_cons, List.map_cons, ih]

/-- A job of the queue after a claim has joined is one of before, or the SCAN with the claim. -/
theorem mem_joinScan {n : SlotNo} {p : Bool} {ts : List Byte} {js : List Job} {j : Job} (h : j ∈ joinScan n p ts js) :
    j ∈ js ∨ ∃ k ∈ js, k.work = .scan n ∧ j = { k with presence := k.presence || p, tags := k.tags ++ ts } := by
  induction js with
  | nil => exact nomatch h
  | cons k ks ih =>
    rw [joinScan] at h
    split at h
    next hk =>
      rcases List.mem_cons.mp h with rfl | h
      · exact .inr ⟨k, List.mem_cons_self, isScanOf_iff.mp hk, rfl⟩
      · exact .inl (List.mem_cons_of_mem k h)
    next =>
      rcases List.mem_cons.mp h with rfl | h
      · exact .inl List.mem_cons_self
      · rcases ih h with h | ⟨i, hi, hwork, rfl⟩
        · exact .inl (List.mem_cons_of_mem k h)
        · exact .inr ⟨i, List.mem_cons_of_mem k hi, hwork, rfl⟩

/-- A presence claim that joins a waiting SCAN is on it. -/
theorem joinScan_demands {n : SlotNo} (ts : List Byte) {js : List Job} (h : js.any (isScanOf n) = true) :
    (joinScan n true ts js).any (presenceScanOf n) = true := by
  induction js with
  | nil => exact nomatch h
  | cons j js ih =>
    rw [joinScan]
    split
    next hj => simp [presenceScanOf_iff, isScanOf_iff.mp hj]
    next hj =>
      have hrest : js.any (isScanOf n) = true := by simpa [hj] using h
      rw [List.any_cons, ih hrest, Bool.or_true]

/-- A presence scan that waits still waits after a claim has joined. -/
theorem joinScan_keeps_demand {m : SlotNo} (n : SlotNo) (p : Bool) (ts : List Byte) {js : List Job}
    (h : js.any (presenceScanOf m) = true) : (joinScan n p ts js).any (presenceScanOf m) = true := by
  induction js with
  | nil => exact nomatch h
  | cons j js ih =>
    rw [List.any_cons, Bool.or_eq_true] at h
    rw [joinScan]
    split
    next =>
      rw [List.any_cons, Bool.or_eq_true]
      refine h.imp_left fun hj => ?_
      obtain ⟨hwork, hpresence⟩ := presenceScanOf_iff.mp hj
      exact presenceScanOf_iff.mpr ⟨hwork, by rw [hpresence]; rfl⟩
    next =>
      rw [List.any_cons, Bool.or_eq_true]
      exact h.imp_right ih

/-- The works after a demand: a SCAN is appended where none of the slot waits. -/
theorem enqueueScan_works (n : SlotNo) (p : Bool) (ts : List Byte) (s : State) :
    (enqueueScan n p ts s).jobs.map Job.work =
      s.jobs.map Job.work ++ if scanWaiting s n then [] else [.scan n] := by
  unfold enqueueScan
  cases h : scanWaiting s n
  · simp
  · simp [joinScan_works]

theorem enqueueScan_demands (n : SlotNo) (ts : List Byte) (s : State) :
    (enqueueScan n true ts s).jobs.any (presenceScanOf n) = true := by
  unfold enqueueScan
  split
  next h => exact joinScan_demands ts h
  next => simp [presenceScanOf_iff]

theorem enqueueScan_keeps_demand {m : SlotNo} (n : SlotNo) (p : Bool) (ts : List Byte) {s : State}
    (h : s.jobs.any (presenceScanOf m) = true) : (enqueueScan n p ts s).jobs.any (presenceScanOf m) = true := by
  unfold enqueueScan
  split
  next => exact joinScan_keeps_demand n p ts h
  next =>
    rw [List.any_append, h]
    rfl

theorem scanWaiting_enqueueScan_of_ne {n m : SlotNo} (p : Bool) (ts : List Byte) (s : State) (hm : m ≠ n) :
    scanWaiting (enqueueScan n p ts s) m = scanWaiting s m := by
  have hworks := congrArg (List.any · (· == JobWork.scan m)) (enqueueScan_works n p ts s)
  have hnew : ((if scanWaiting s n then [] else [JobWork.scan n]).any (· == JobWork.scan m)) = false := by
    split
    next => rfl
    next => simp [Ne.symm hm]
  simp only [List.any_append, List.any_map, hnew, Bool.or_false] at hworks
  exact hworks

/-! ### Demands one after another -/

/-- A presence scan demanded for each of some slots, in order. -/
def demandScans (ns : List SlotNo) (s : State) : State := ns.foldl (fun t n => enqueueScan n true [] t) s

theorem demandScans_cons (n : SlotNo) (ns : List SlotNo) (s : State) :
    demandScans (n :: ns) s = demandScans ns (enqueueScan n true [] s) := rfl

/-- The demands change the queue alone. -/
theorem demandScans_frame (ns : List SlotNo) (s : State) :
    demandScans ns s = { s with jobs := (demandScans ns s).jobs } := by
  induction ns generalizing s with
  | nil => rfl
  | cons n ns ih =>
    rw [demandScans_cons, ih, enqueueScan_frame]

theorem demandScans_keeps_demand {m : SlotNo} (ns : List SlotNo) {s : State} (h : s.jobs.any (presenceScanOf m) = true) :
    (demandScans ns s).jobs.any (presenceScanOf m) = true := by
  induction ns generalizing s with
  | nil => exact h
  | cons n ns ih => exact ih (enqueueScan_keeps_demand n true [] h)

theorem demandScans_demands {n : SlotNo} {ns : List SlotNo} (hn : n ∈ ns) (s : State) :
    (demandScans ns s).jobs.any (presenceScanOf n) = true := by
  induction ns generalizing s with
  | nil => exact nomatch hn
  | cons m ms ih =>
    rcases List.mem_cons.mp hn with rfl | hn
    · exact demandScans_keeps_demand ms (enqueueScan_demands n [] s)
    · exact ih hn _

/-- The works after the demands: new SCANs behind the others, in the order of the demands. -/
theorem demandScans_works {ns : List SlotNo} (hnodup : ns.Nodup) (s : State) :
    (demandScans ns s).jobs.map Job.work =
      s.jobs.map Job.work ++ (ns.filter fun n => !scanWaiting s n).map JobWork.scan := by
  induction ns generalizing s with
  | nil => simp [demandScans]
  | cons n ns ih =>
    obtain ⟨hn, hrest⟩ := List.nodup_cons.mp hnodup
    have hwaiting : (ns.filter fun m => !scanWaiting (enqueueScan n true [] s) m) = ns.filter fun m => !scanWaiting s m :=
      List.filter_congr fun m hm => by
        have hne : m ≠ n := ne_of_mem_of_not_mem hm hn
        rw [scanWaiting_enqueueScan_of_ne true [] s hne]
    rw [demandScans_cons, ih hrest, enqueueScan_works, hwaiting, List.append_assoc, List.filter_cons]
    cases scanWaiting s n <;> rfl

/-! ### The recovered bus -/

/-- The slot records of a recovered bus: those lost to it are read again (R56). -/
def rereadSlots (v : Eight Slot) : Eight Slot :=
  Eight.ofFn fun n => if lostToBus (v.get n) then { v.get n with state := .reading, cause := none } else v.get n

theorem recoveryRescans_eq (s : State) :
    recoveryRescans s =
      demandScans (allSlots.filter fun n => lostToBus (s.slots.get n)) { s with slots := rereadSlots s.slots } := rfl

@[simp] theorem recoveryRescans_slots (s : State) : (recoveryRescans s).slots = rereadSlots s.slots := by
  rw [recoveryRescans_eq, demandScans_frame]

theorem lostToBus_iff {r : Slot} : lostToBus r = true ↔ r.state = .unreadable ∧ r.cause = some .bus := by simp [lostToBus]

theorem rereadSlots_get_of_lost {v : Eight Slot} {n : SlotNo} (h : lostToBus (v.get n) = true) :
    (rereadSlots v).get n = { v.get n with state := .reading, cause := none } := by simp [rereadSlots, h]

theorem rereadSlots_get_of_not_lost {v : Eight Slot} {n : SlotNo} (h : lostToBus (v.get n) = false) :
    (rereadSlots v).get n = v.get n := by simp [rereadSlots, h]

/-- Settles O19: the records are reread, and the demands are made in the order of the slots. -/
theorem recoveryRescansLostSlots : Obligations.RecoveryRescansLostSlots := by
  intro s lost t
  have ht : t = demandScans (allSlots.filter fun n => lostToBus (s.slots.get n)) { s with slots := rereadSlots s.slots } :=
    recoveryRescans_eq s
  have hslots : t.slots = rereadSlots s.slots := recoveryRescans_slots s
  refine ⟨fun n hn => ⟨?_, ?_⟩, fun n hn => ?_, ?_, ?_⟩
  · rw [hslots, rereadSlots_get_of_lost (lostToBus_iff.mpr hn)]
  · have hmem : n ∈ allSlots.filter fun n => lostToBus (s.slots.get n) :=
      List.mem_filter.mpr ⟨mem_allSlots n, lostToBus_iff.mpr hn⟩
    have hdemand := demandScans_demands hmem { s with slots := rereadSlots s.slots }
    rw [← ht] at hdemand
    obtain ⟨j, hj, hscan⟩ := List.any_eq_true.mp hdemand
    exact ⟨j, hj, presenceScanOf_iff.mp hscan⟩
  · rw [hslots, rereadSlots_get_of_not_lost (Bool.eq_false_iff.mpr fun h => hn (lostToBus_iff.mp h))]
  · rw [ht, demandScans_frame]
  · rw [ht, demandScans_works (allSlots_nodup.filter _), List.filter_filter]
    congr 2
    refine List.filter_congr fun n _ => ?_
    have hlost : decide (lost n) = lostToBus (s.slots.get n) := by
      rw [← Bool.decide_coe (lostToBus (s.slots.get n)), decide_eq_decide]
      exact lostToBus_iff.symm
    rw [hlost, Bool.and_comm]
    rfl

end Sys2Proof.Machine
end

section
/-! The Slot Table as a whole (R38, R41 to R48): what keeps it right, and that every frame does. -/

namespace Sys2Proof.Machine

/-- Every record agrees with itself and with the verdict on its copy, the clash sets are those of the keys, and EMPTY is
the level of the line. -/
structure SlotTableOk (s : State) : Prop where
  record : ∀ n, RecordOk (s.slots.get n)
  clash : ClashInv s
  presence : PresenceInv s

theorem Inv.slotTable {s : State} (h : Inv s) : SlotTableOk s :=
  ⟨(slotInv_verdictInv_iff s).mp ⟨h.slots, h.verdict⟩, h.clash, h.presence⟩

/-! ### What leaves the Slot Table as it was -/

theorem SlotTableOk.congr {s t : State} (h : SlotTableOk s) (hst : SameTable s t) : SlotTableOk t := by
  obtain ⟨hslots, hpres, hreset⟩ := hst
  refine ⟨fun n => hslots ▸ h.record n, fun n => ?_, fun hrun n => ?_⟩
  · rw [hslots]
    exact h.clash n
  · rw [hslots, hpres]
    exact h.presence (hreset ▸ hrun) n

theorem sameTable_answer (tag kind : Byte) (st : Status) (payload : List Byte) (s : State) :
    SameTable s (answer tag kind st payload s) := ⟨rfl, rfl, rfl⟩

theorem sameTable_raise (b : NoticeBody) (s : State) : SameTable s (raise b s) := ⟨by simp, by simp, by simp⟩

theorem sameTable_endTags (st : Status) (payload : List Byte) (tags : List Byte) (s : State) :
    SameTable s (endTags st payload tags s) := ⟨by simp, by simp, by simp⟩

theorem sameTable_endRequest (st : Status) (payload : List Byte) (tag : Byte) (s : State) :
    SameTable s (endRequest st payload tag s) := ⟨by simp, by simp, by simp⟩

theorem sameTable_finishJob (s : State) : SameTable s (finishJob s) := ⟨by simp, by simp, by simp⟩

theorem sameTable_startNext (s : State) : SameTable s (startNext s) := ⟨by simp, by simp, by simp⟩

theorem sameTable_demandScan (n : SlotNo) (p : Bool) (ts : List Byte) (s : State) : SameTable s (demandScan n p ts s) :=
  ⟨by simp, by simp, by simp⟩

theorem sameTable_endStopped (f : InFlight) (s : State) : SameTable s (endStopped f s) := ⟨by simp, by simp, by simp⟩

theorem sameTable_markToStop (f : InFlight) (s : State) : SameTable s (markToStop f s) := ⟨by simp, by simp, by simp⟩

theorem sameTable_dropEntry (e : Entry) (s : State) : SameTable s (dropEntry e s) := ⟨by simp, by simp, by simp⟩

theorem sameTable_takeJob (tag kind : Byte) (w : JobWork) (s : State) : SameTable s (takeJob tag kind w s) :=
  ⟨by simp [takeJob], by simp [takeJob], by simp [takeJob]⟩

/-! ### The owners that change modules or claims, but not the Slot Table -/

section Owners
variable (tag : Byte) (payload : List Byte) (s : State)

theorem sameTable_ownReadModule : SameTable s (ownReadModule tag payload s) := by
  unfold ownReadModule
  split
  next => exact sameTable_answer ..
  next =>
    split_ifs
    · exact sameTable_answer ..
    · exact sameTable_answer ..
    · exact sameTable_takeJob ..

theorem sameTable_ownWriteUser : SameTable s (ownWriteUser tag payload s) := by
  unfold ownWriteUser
  split
  next => exact sameTable_answer ..
  next =>
    split_ifs
    · exact sameTable_answer ..
    · exact sameTable_answer ..
    · exact sameTable_answer ..
    · exact sameTable_answer ..
    · exact sameTable_takeJob ..

theorem sameTable_ownRescan : SameTable s (ownRescan tag payload s) := by
  unfold ownRescan
  split
  next => exact sameTable_answer ..
  next =>
    split_ifs
    · exact sameTable_answer ..
    · exact sameTable_answer ..
    · exact sameTable_answer ..
    · exact ⟨by simp, by simp, by simp⟩

theorem sameTable_ownBusReset : SameTable s (ownBusReset tag payload s) := by
  unfold ownBusReset
  split
  next => exact ⟨rfl, rfl, rfl⟩
  next => exact sameTable_takeJob ..

theorem sameTable_ownResolve : SameTable s (ownResolve tag payload s) := by
  unfold ownResolve
  split
  next => exact sameTable_answer ..
  next =>
    split
    next => exact ⟨by simp [takeResolve], by simp [takeResolve], by simp [takeResolve]⟩
    next => exact sameTable_answer ..

theorem sameTable_ownDrop : SameTable s (ownDrop tag payload s) := by
  unfold ownDrop withEntry
  split
  next => exact sameTable_answer ..
  next =>
    split
    next => exact sameTable_answer ..
    next =>
      unfold dropNamed
      split
      next => exact sameTable_answer ..
      next => exact (sameTable_dropEntry ..).trans (sameTable_answer ..)

theorem sameTable_cancelledThenOk (t : Byte) : SameTable s (cancelledThenOk tag t s) :=
  (sameTable_endRequest ..).trans (sameTable_answer ..)

theorem sameTable_dropFlightClaim (t : Byte) (f : InFlight) : SameTable s (dropFlightClaim t f s) := by
  unfold dropFlightClaim
  dsimp only
  split
  next => exact sameTable_markToStop ..
  next => exact ⟨rfl, rfl, rfl⟩

theorem sameTable_cancelJob (t : Byte) : SameTable s (cancelJob tag t s) := by
  unfold cancelJob
  split
  next =>
    have hqueue : SameTable s { s with jobs := dropClaim t s.jobs } := ⟨rfl, rfl, rfl⟩
    exact hqueue.trans (sameTable_cancelledThenOk ..)
  next =>
    split
    next =>
      split
      next =>
        unfold cancelInFlight
        split
        · exact (sameTable_cancelledThenOk ..).trans (sameTable_dropFlightClaim ..)
        · exact (sameTable_cancelledThenOk ..).trans (sameTable_dropFlightClaim ..)
        · exact sameTable_answer ..
        · exact sameTable_answer ..
      next => exact sameTable_answer ..
    next => exact sameTable_answer ..

theorem sameTable_cancelResolve (t : Byte) : SameTable s (cancelResolve tag t s) := by
  unfold cancelResolve
  split
  next => exact (sameTable_dropEntry ..).trans (sameTable_answer ..)
  next => exact sameTable_answer ..

theorem sameTable_ownCancel : SameTable s (ownCancel tag payload s) := by
  unfold ownCancel
  split
  next => exact sameTable_answer ..
  next =>
    split
    next => exact sameTable_answer ..
    next =>
      split
      next => exact sameTable_cancelJob ..
      next => exact sameTable_cancelResolve ..

end Owners

/-! ### Changes of records that keep keys and clash sets -/

/-- Records changed in place: keys and clash sets as they were, EMPTY still the level of the line. -/
theorem SlotTableOk.update {s t : State} (h : SlotTableOk s) (hrecord : ∀ n, RecordOk (t.slots.get n))
    (hkey : ∀ n, (t.slots.get n).key = (s.slots.get n).key)
    (hclash : ∀ n, (t.slots.get n).clash = (s.slots.get n).clash) (hpresence : PresenceInv t) : SlotTableOk t := by
  refine ⟨hrecord, fun n => ?_, hpresence⟩
  rw [hclash, h.clash n, clashOf_congr hkey]

/-- One record changed in place, with the level of its line. -/
theorem SlotTableOk.updateSlot {s : State} (h : SlotTableOk s) {n : SlotNo} {r : Slot} {level : Bool}
    (hrecord : RecordOk r) (hkey : r.key = (s.slots.get n).key) (hclash : r.clash = (s.slots.get n).clash)
    (hpresence : s.resetAsserted = false → (level = true ↔ r.state = .empty)) :
    SlotTableOk { s with pres := s.pres.set n level, slots := s.slots.set n r } := by
  refine h.update (fun m => ?_) (fun m => ?_) (fun m => ?_) fun hrun m => ?_ <;>
    by_cases hm : m = n
  · rw [hm, Eight.get_set_same]
    exact hrecord
  · rw [Eight.get_set_other _ _ hm]
    exact h.record m
  · rw [hm, Eight.get_set_same, hkey]
  · rw [Eight.get_set_other _ _ hm]
  · rw [hm, Eight.get_set_same, hclash]
  · rw [Eight.get_set_other _ _ hm]
  · rw [hm, Eight.get_set_same, Eight.get_set_same]
    exact hpresence hrun
  · rw [Eight.get_set_other _ _ hm, Eight.get_set_other _ _ hm]
    exact h.presence hrun m

/-- One record changed in place, EMPTY as before. -/
theorem SlotTableOk.setSlot {s : State} (h : SlotTableOk s) {n : SlotNo} {r : Slot} (hrecord : RecordOk r)
    (hkey : r.key = (s.slots.get n).key) (hclash : r.clash = (s.slots.get n).clash)
    (hempty : r.state = .empty ↔ (s.slots.get n).state = .empty) : SlotTableOk { s with slots := s.slots.set n r } := by
  have hset := h.updateSlot (level := s.pres.get n) hrecord hkey hclash fun hrun => (h.presence hrun n).trans hempty.symm
  rwa [Eight.set_get] at hset

/-- A slot event leaves the clash sets of the keys it put in place. -/
theorem slotTableOk_slotEvent {own : SlotNo → Bool} {changed : Eight Slot} {s : State} (bodies : List NoticeBody)
    (hrecord : ∀ n, RecordOk (changed.get n))
    (hpresence : s.resetAsserted = false → ∀ n, s.pres.get n = true ↔ (changed.get n).state = .empty) :
    SlotTableOk (slotEvent own changed bodies s) := by
  refine ⟨fun n => ?_, fun n => ?_, fun hrun n => ?_⟩
  · rw [slotEvent_slots, commitSlots_get]
    exact (hrecord n).of_clash_gen _ _
  · rw [slotEvent_slots, commitSlots_get]
    refine clashOf_congr (fun m => ?_) n
    rw [commitSlots_get]
  · rw [slotEvent_resetAsserted] at hrun
    rw [slotEvent_slots, commitSlots_get, slotEvent_pres]
    exact hpresence hrun n

/-! ### Overrides -/

/-- An override list after a place: the same parameters, or one more behind them. -/
theorem placeOverride_params (o : Override) (os : List Override) :
    (placeOverride o os).map Override.param =
      if overrides os o.param then os.map Override.param else os.map Override.param ++ [o.param] := by
  cases h : overrides os o.param with
  | false => rw [placeOverride_append (overrides_eq_false_iff.mp h)]; simp
  | true =>
    obtain ⟨front, old, back, hos, hold, hfront⟩ := overrides_split h
    rw [hos, placeOverride_replace back hold hfront]
    simp [hold]

theorem mem_placeOverride {x o : Override} {os : List Override} (h : x ∈ placeOverride o os) : x = o ∨ x ∈ os := by
  induction os with
  | nil => exact .inl (List.mem_singleton.mp h)
  | cons p ps ih =>
    rw [placeOverride] at h
    split at h
    next =>
      exact (List.mem_cons.mp h).imp_right (List.mem_cons_of_mem p)
    next =>
      rcases List.mem_cons.mp h with rfl | h
      · exact .inr List.mem_cons_self
      · exact (ih h).imp_right (List.mem_cons_of_mem p)

/-- A list changed within its bounds on a slot with a module keeps the table right. -/
theorem SlotTableOk.changeOverrides {s : State} (h : SlotTableOk s) {n : SlotNo} {os : List Override}
    (hrecord : RecordOk { s.slots.get n with overrides := os }) : SlotTableOk (changeOverrides n os s) := by
  have hset : SlotTableOk
      { s with slots := s.slots.set n { s.slots.get n with overrides := os, gen := (s.slots.get n).gen + 1 } } :=
    h.setSlot (hrecord.of_clash_gen _ _) rfl rfl Iff.rfl
  exact hset.congr (quiet_staleSlots _ _).toSameTable

theorem SlotTableOk.acceptOverride {s : State} (h : SlotTableOk s) {n : SlotNo} {o : Override} (ho : overrideOk o)
    (hst : occupied (s.slots.get n).state = true)
    (hroom : overrides (s.slots.get n).overrides o.param = true ∨ (s.slots.get n).overrides.length < 8) :
    SlotTableOk (acceptOverride n o s) := by
  unfold Machine.acceptOverride
  split
  next => exact h
  next =>
    obtain ⟨_, _, _, _, _, _, _, hlength, hnodup, hos, _⟩ := (h.record n).fields
    have hparams := placeOverride_params o (s.slots.get n).overrides
    have hcount := congrArg List.length hparams
    refine h.changeOverrides ((h.record n).overridden ?_ ?_ (fun x hx => ?_) fun hnone => ?_)
    · cases hheld : overrides (s.slots.get n).overrides o.param with
      | true => simpa [hheld] using hcount.le.trans (by simpa [hheld] using hlength)
      | false =>
        have hroom : (s.slots.get n).overrides.length < 8 := hroom.resolve_left (by simp [hheld])
        simp only [hheld, Bool.false_eq_true, if_false, List.length_append, List.length_map, List.length_singleton] at hcount
        rw [hcount]
        exact hroom
    · rw [hparams]
      split
      next => exact hnodup
      next hnew =>
        refine List.Nodup.append hnodup (List.nodup_singleton _) (List.disjoint_singleton.mpr fun hmem => hnew ?_)
        obtain ⟨x, hx, hparam⟩ := List.mem_map.mp hmem
        exact overrides_iff.mpr ⟨x, hx, hparam⟩
    · rcases mem_placeOverride hx with rfl | hx
      · exact ho
      · exact hos x hx
    · rw [hst] at hnone
      exact nomatch hnone

theorem SlotTableOk.ownSetOverride {s : State} (h : SlotTableOk s) (tag : Byte) (payload : List Byte) :
    SlotTableOk (ownSetOverride tag payload s) := by
  cases harg : overrideArg payload with
  | none =>
    rw [Machine.ownSetOverride, harg]
    exact h.congr (sameTable_answer ..)
  | some no =>
    obtain ⟨n, o⟩ := no
    cases hst : occupied (s.slots.get n).state with
    | false =>
      rw [ownSetOverride_notReady harg hst]
      exact h.congr (sameTable_answer ..)
    | true =>
      cases hset : inAppliedSet s n with
      | true =>
        rw [ownSetOverride_inUse harg hst hset]
        exact h.congr (sameTable_answer ..)
      | false =>
        by_cases hroom : overrides (s.slots.get n).overrides o.param = true ∨ (s.slots.get n).overrides.length < 8
        · rw [ownSetOverride_accepted harg hst hset hroom]
          exact (h.acceptOverride (overrideOk_of_overrideArg harg) hst hroom).congr (sameTable_answer ..)
        · rw [not_or, Bool.not_eq_true, not_lt] at hroom
          rw [ownSetOverride_ninth harg hst hset hroom.1 hroom.2]
          exact h.congr (sameTable_answer ..)

/-- An empty list is within its bounds on every slot. -/
theorem RecordOk.cleared {r : Slot} (h : RecordOk r) : RecordOk { r with overrides := [] } :=
  h.overridden (Nat.zero_le _) List.nodup_nil (fun _ hx => nomatch hx) fun _ => rfl

theorem SlotTableOk.ownClearOverrides {s : State} (h : SlotTableOk s) (tag : Byte) (payload : List Byte) :
    SlotTableOk (ownClearOverrides tag payload s) := by
  unfold Machine.ownClearOverrides
  split
  next => exact h.congr (sameTable_answer ..)
  next n _ =>
    split_ifs
    · exact h.congr (sameTable_answer ..)
    · exact h.congr (sameTable_answer ..)
    · refine SlotTableOk.congr ?_ (sameTable_answer ..)
      unfold acceptClear
      split
      next => exact h
      next => exact h.changeOverrides (h.record n).cleared

/-! ### The resets -/

/-- R64: the override lists of a session reset. -/
theorem SlotTableOk.sessionSlots {s : State} (h : SlotTableOk s) : SlotTableOk (sessionSlots s) := by
  have hget (n : SlotNo) : (Machine.sessionSlots s).slots.get n = s.slots.get n ∨
      (Machine.sessionSlots s).slots.get n = { s.slots.get n with overrides := [], gen := (s.slots.get n).gen + 1 } := by
    rw [Machine.sessionSlots, Eight.get_ofFn]
    dsimp only
    split
    · exact .inl rfl
    · exact .inr rfl
  refine h.update (fun n => ?_) (fun n => ?_) (fun n => ?_) fun hrun n => (h.presence hrun n).trans ?_ <;>
    rcases hget n with hn | hn <;> rw [hn]
  · exact h.record n
  · exact (h.record n).cleared.of_clash_gen _ _

theorem SlotTableOk.ownReset {s : State} (h : SlotTableOk s) (tag : Byte) (payload : List Byte) :
    SlotTableOk (ownReset tag payload s) := by
  unfold Machine.ownReset
  split
  next => exact h.congr (sameTable_answer ..)
  next =>
    have hbefore : SameTable s (sessionProfiles (sessionBus (answer tag kindReset .ok [] (abortAll s)))) :=
      ⟨by simp, by simp, by simp⟩
    exact (h.congr hbefore).sessionSlots.congr ⟨rfl, rfl, rfl⟩
  next => exact h.congr ⟨by simp [resetByFull], by simp [resetByFull], by simp [resetByFull]⟩

/-! ### Every frame, byte and gap -/

theorem linkKeeps_slotTableOk : LinkKeeps SlotTableOk where
  receiver _ _ h := h.congr ⟨rfl, rfl, rfl⟩
  dropped _ _ h := h.congr (sameTable_raise ..)
  refused _ _ _ _ h := h.congr (sameTable_answer ..)
  owned tag kind payload s _ h :=
    ownerOf_elim tag kind payload s (fun _ hquiet => h.congr hquiet.toSameTable)
      (fun _ => h.congr (sameTable_ownReadModule ..)) (fun _ => h.congr (sameTable_ownWriteUser ..))
      (fun _ => h.congr (sameTable_ownRescan ..)) (h.ownSetOverride ..) (h.ownClearOverrides ..)
      (fun _ => h.congr (sameTable_ownResolve ..)) (h.congr (sameTable_ownDrop ..)) (h.congr (sameTable_ownCancel ..))
      (fun _ => h.congr (sameTable_ownBusReset ..)) (h.ownReset ..)

end Sys2Proof.Machine
end

section
/-! The events, said once: each has no effect, or does its one thing to the job in flight it applies to (log 3). -/

namespace Sys2Proof.Machine

section Events
variable {s t : State}

theorem exec_segmentDone_cases {bytes : List Byte} (ht : exec (.segmentDone bytes) s = .next t) :
    t = s ∨ ∃ f n, s.inFlight = some f ∧ f.job.work = .scan n ∧ f.activity = .transaction ∧ t = segmentEnd n f bytes s := by
  rw [exec, execSegmentDone] at ht
  split at ht
  next f hf =>
    split at ht
    next n hwork =>
      cases ht
      split
      next h => exact .inr ⟨f, n, hf, hwork, h.1, rfl⟩
      next => exact .inl rfl
    all_goals exact .inl (Host.Outcome.next.inj ht).symm
  next => exact .inl (Host.Outcome.next.inj ht).symm

theorem exec_transactionFailed_cases {acked : Bool} (ht : exec (.transactionFailed acked) s = .next t) :
    t = s ∨ ∃ f, s.inFlight = some f ∧ f.activity = .transaction ∧ t = transactionEnd (noteAcked acked f) s := by
  rw [exec, execTransactionFailed] at ht
  split at ht
  next f hf =>
    cases ht
    split
    next h => exact .inr ⟨f, hf, h, rfl⟩
    next => exact .inl rfl
  next => exact .inl (Host.Outcome.next.inj ht).symm

theorem exec_retryTimerExpiry_cases (ht : exec .retryTimerExpiry s = .next t) :
    t = s ∨ ∃ f, s.inFlight = some f ∧ f.activity = .retryWait ∧
      (f.stopMark = true ∧ t = endStopped f s ∨
        f.stopMark = false ∧ t = { s with inFlight := some { f with activity := .transaction } }) := by
  rw [exec, execRetryTimerExpiry] at ht
  split at ht
  next f hf =>
    cases ht
    split
    next h =>
      refine .inr ⟨f, hf, h, ?_⟩
      split
      next hmark => exact .inl ⟨hmark, rfl⟩
      next hmark => exact .inr ⟨Bool.eq_false_iff.mpr hmark, rfl⟩
    next => exact .inl rfl
  next => exact .inl (Host.Outcome.next.inj ht).symm

theorem exec_stuckBus_cases {acked : Bool} (ht : exec (.stuckBus acked) s = .next t) :
    t = s ∨ ∃ f, s.inFlight = some f ∧ s.bus = .busy ∧
      t = { stuckFailure (noteAcked acked f) s with inFlight := none, bus := .recovering, pulses := 0 } := by
  rw [exec, execStuckBus] at ht
  split at ht
  next f hf =>
    cases ht
    split
    next h => exact .inr ⟨f, hf, h, rfl⟩
    next => exact .inl rfl
  next => exact .inl (Host.Outcome.next.inj ht).symm

theorem exec_recoveryEnd_cases {looks : List Bool} {scl sda : Bool} (ht : exec (.recoveryEnd looks scl sda) s = .next t) :
    t = s ∨ s.bus = .recovering ∧ t = recoveryOutcome (scl && sda) { s with pulses := pulsesSent looks } := by
  cases ht
  split
  next h => exact .inr ⟨h, rfl⟩
  next => exact .inl rfl

theorem exec_moduleReadDone_cases {bytes : List Byte} (ht : exec (.moduleReadDone bytes) s = .next t) :
    t = s ∨ ∃ f n off len, s.inFlight = some f ∧ f.job.work = .moduleRead n off len ∧
      (t = endStopped f s ∨ t = finishJob (endTags .ok bytes f.job.tags s)) := by
  rw [exec, execModuleReadDone] at ht
  split at ht
  next f hf =>
    split at ht
    next n off len hwork =>
      cases ht
      split_ifs
      · exact .inr ⟨f, n, off, len, hf, hwork, .inl rfl⟩
      · exact .inr ⟨f, n, off, len, hf, hwork, .inr rfl⟩
      · exact .inl rfl
    all_goals exact .inl (Host.Outcome.next.inj ht).symm
  next => exact .inl (Host.Outcome.next.inj ht).symm

theorem exec_pageWriteDone_cases (ht : exec .pageWriteDone s = .next t) :
    t = s ∨ ∃ f, s.inFlight = some f ∧ inPageWrite f = true ∧ t = { s with inFlight := some { f with
      phase := .polling, activity := .pollWait, failed := 0, dataAcked := true, polls := 0 } } := by
  rw [exec, execPageWriteDone] at ht
  split at ht
  next f hf =>
    cases ht
    split
    next h => exact .inr ⟨f, hf, h, rfl⟩
    next => exact .inl rfl
  next => exact .inl (Host.Outcome.next.inj ht).symm

theorem exec_pollTimerExpiry_cases (ht : exec .pollTimerExpiry s = .next t) :
    t = s ∨ ∃ f, s.inFlight = some f ∧ f.activity = .pollWait ∧
      t = { s with inFlight := some { f with activity := .poll, polls := f.polls + 1 } } := by
  rw [exec, execPollTimerExpiry] at ht
  split at ht
  next f hf =>
    cases ht
    split
    next h => exact .inr ⟨f, hf, h, rfl⟩
    next => exact .inl rfl
  next => exact .inl (Host.Outcome.next.inj ht).symm

theorem exec_pollDone_cases {acked : Bool} (ht : exec (.pollDone acked) s = .next t) :
    t = s ∨ ∃ f n off data, s.inFlight = some f ∧ f.job.work = .userWrite n off data ∧ f.activity = .poll ∧
      t = pollEnd f n off acked s := by
  rw [exec, execPollDone] at ht
  split at ht
  next f hf =>
    split at ht
    next n off data hwork =>
      cases ht
      split
      next h => exact .inr ⟨f, n, off, data, hf, hwork, h, rfl⟩
      next => exact .inl rfl
    all_goals exact .inl (Host.Outcome.next.inj ht).symm
  next => exact .inl (Host.Outcome.next.inj ht).symm

theorem exec_readBackDone_cases {bytes : List Byte} (ht : exec (.readBackDone bytes) s = .next t) :
    t = s ∨ ∃ f n off data, s.inFlight = some f ∧ f.job.work = .userWrite n off data ∧
      t = readBackEnd f n off data bytes s := by
  rw [exec, execReadBackDone] at ht
  split at ht
  next f hf =>
    split at ht
    next n off data hwork =>
      cases ht
      split
      next => exact .inr ⟨f, n, off, data, hf, hwork, rfl⟩
      next => exact .inl rfl
    all_goals exact .inl (Host.Outcome.next.inj ht).symm
  next => exact .inl (Host.Outcome.next.inj ht).symm

theorem exec_userWriteAbandonEnd_cases (ht : exec .userWriteAbandonEnd s = .next t) :
    t = s ∨ ∃ f, s.inFlight = some f ∧ f.activity = .stopCondition ∧ t = finishJob s := by
  rw [exec, execUserWriteAbandonEnd] at ht
  split at ht
  next f hf =>
    cases ht
    split
    next h => exact .inr ⟨f, hf, h, rfl⟩
    next => exact .inl rfl
  next => exact .inl (Host.Outcome.next.inj ht).symm

theorem exec_resolutionComplete_cases (ht : exec .resolutionComplete s = .next t) :
    t = s ∨ ∃ w e tag sn, t = resolutionEnd w e tag sn s := by
  rw [exec, execResolutionComplete] at ht
  split at ht
  next w e _ _ =>
    split at ht
    next tag sn _ => exact .inr ⟨w, e, tag, sn, (Host.Outcome.next.inj ht).symm⟩
    all_goals exact .inl (Host.Outcome.next.inj ht).symm
  all_goals exact .inl (Host.Outcome.next.inj ht).symm

theorem exec_replySendStart_cases (ht : exec .replySendStart s = .next t) :
    t = s ∨ ∃ r rest, t = { s with sending := some r, tx := rest } := by
  rw [exec, execReplySendStart] at ht
  split at ht
  next r rest _ _ => exact .inr ⟨r, rest, (Host.Outcome.next.inj ht).symm⟩
  all_goals exact .inl (Host.Outcome.next.inj ht).symm

theorem exec_replySent_cases (ht : exec .replySent s = .next t) :
    t = s ∨ t = { s with sending := none } ∨ s.closing = true ∧ t = fullReset { s with sending := none } := by
  rw [exec, execReplySent] at ht
  split at ht
  next =>
    cases ht
    rw [replyLeft]
    split
    next h => exact .inr (.inr ⟨h.1, rfl⟩)
    next => exact .inr (.inl rfl)
  next => exact .inl (Host.Outcome.next.inj ht).symm

theorem exec_settleExpiry_cases {n : SlotNo} (ht : exec (.settleExpiry n) s = .next t) :
    t = s ∨ (s.slots.get n).state = .settling ∧ t = insertion n s := by
  cases ht
  split
  next h => exact .inr ⟨h, rfl⟩
  next => exact .inl rfl

theorem exec_presenceLow_cases {n : SlotNo} (ht : exec (.presenceLow n) s = .next t) :
    s.resetAsserted = true ∧ t = s ∨
      s.resetAsserted = false ∧ t = startSettling n { s with pres := s.pres.set n false } := by
  cases ht
  split
  next h => exact .inl ⟨h, rfl⟩
  next h => exact .inr ⟨Bool.eq_false_iff.mpr h, rfl⟩

theorem exec_presenceHigh_cases {n : SlotNo} (ht : exec (.presenceHigh n) s = .next t) :
    s.resetAsserted = true ∧ t = s ∨
      s.resetAsserted = false ∧ t = presenceHigh n { s with pres := s.pres.set n true } := by
  cases ht
  split
  next h => exact .inl ⟨h, rfl⟩
  next h => exact .inr ⟨Bool.eq_false_iff.mpr h, rfl⟩

theorem exec_lineResetRelease_cases {rate : Bool} {pres : Eight Bool} (ht : exec (.lineResetRelease rate pres) s = .next t) :
    t = s ∨ s.resetAsserted = true ∧ t = releaseReset rate pres s := by
  cases ht
  split
  next h => exact .inr ⟨h, rfl⟩
  next => exact .inl rfl

end Events

/-! ### A step -/

/-- The commands that wait take no part in what every step keeps. -/
theorem Inv.withPending {s : State} (h : Inv s) (pending : List Instr) : Inv { s with pending := pending } :=
  { h with reset := fun hreset => by rw [h.reset hreset] }

/-- A step is the effect of a command, or there is none and the state stays. -/
theorem step_cases {s t : State} (ht : step s = .next t) :
    t = s ∨ ∃ c rest, exec c { s with pending := rest } = .next t := by
  unfold step at ht
  split at ht
  next => exact .inl (Host.Outcome.next.inj ht).symm
  next c rest _ => exact .inr ⟨c, rest, ht⟩

end Sys2Proof.Machine
end

section
/-! Every step keeps the Slot Table right: the events of lines and bus, one by one (R38 to R57). -/

namespace Sys2Proof.Machine

/-! ### Resets -/

theorem slotTableOk_reset (pending : List Instr) : SlotTableOk { State.reset with pending := pending } :=
  (resetKeepsInv pending).slotTable

theorem samplePresence_slots_get (s : State) (n : SlotNo) :
    (samplePresence s).slots.get n =
      if s.pres.get n = false ∧ (s.slots.get n).state = .empty then
        { s.slots.get n with state := .settling, settle := some s.config.settleMs }
      else s.slots.get n := by simp [samplePresence]

/-- R43: after a reset each slot whose line is low settles, the others are EMPTY. -/
theorem slotTableOk_samplePresence {s : State} (hslots : s.slots = State.reset.slots)
    (hms : settleTimeOk s.config.settleMs = true) : SlotTableOk (samplePresence s) := by
  have hget (n : SlotNo) : (samplePresence s).slots.get n =
      if s.pres.get n = false then { slotReset with state := .settling, settle := some s.config.settleMs }
      else slotReset := by
    rw [samplePresence_slots_get, hslots, reset_slots_get]
    exact if_congr (and_iff_left rfl) rfl rfl
  refine ⟨fun n => ?_, fun n => ?_, fun _ n => ?_⟩
  · rw [hget]
    split
    next => exact recordOk_slotReset.settling rfl hms
    next => exact recordOk_slotReset
  · have hkey : ((samplePresence s).slots.get n).key = none := by rw [hget]; split <;> rfl
    rw [clashOf_of_key_none hkey, hget]
    split <;> rfl
  · rw [hget]
    cases hn : (samplePresence s).pres.get n <;> rw [samplePresence_pres] at hn <;> simp [hn, slotReset]

theorem SettingsInv.settleTime {s : State} (h : SettingsInv s) : settleTimeOk s.config.settleMs = true := by
  obtain ⟨_, _, hms⟩ := h
  exact hms

/-- In a line reset the state is the reset state, but for the commands that wait. -/
theorem Inv.eq_reset {s : State} (h : Inv s) (hreset : s.resetAsserted = true) :
    s = { State.reset with pending := s.pending } := h.reset hreset

theorem slotTableOk_releaseReset {s : State} (h : Inv s) (hreset : s.resetAsserted = true) (rate : Bool)
    (pres : Eight Bool) : SlotTableOk (releaseReset rate pres s) := by
  have hslots : s.slots = State.reset.slots := by rw [h.eq_reset hreset]
  exact slotTableOk_samplePresence hslots h.settings.settleTime

theorem slotTableOk_fullReset (s : State) : SlotTableOk (fullReset s) :=
  slotTableOk_samplePresence rfl settingsInv_reset.settleTime

/-! ### Lines -/

/-- R44: a presence low. -/
theorem SlotTableOk.startSettling {s : State} (h : SlotTableOk s) {n : SlotNo}
    (hms : settleTimeOk s.config.settleMs = true) :
    SlotTableOk (startSettling n { s with pres := s.pres.set n false }) := by
  unfold Machine.startSettling
  split
  next hst =>
    have hrecord := (h.record n).settling hst hms
    exact h.updateSlot hrecord rfl rfl fun _ => by simp
  next hst =>
    have hlow := h.updateSlot (n := n) (level := false) (h.record n) rfl rfl fun _ => by simp [show _ ≠ _ from hst]
    rwa [Eight.set_get] at hlow

/-- R48: a removal. -/
theorem SlotTableOk.removal {s : State} (h : SlotTableOk s) {n : SlotNo} (hst : occupied (s.slots.get n).state = true) :
    SlotTableOk (removal n { s with pres := s.pres.set n true }) := by
  have hevent : SlotTableOk (removalEvent n { s with pres := s.pres.set n true }) := by
    refine slotTableOk_slotEvent _ (fun m => ?_) fun hrun m => ?_ <;> by_cases hm : m = n
    · rw [hm, Eight.get_set_same]
      exact (h.record n).removed hst
    · rw [Eight.get_set_other _ _ hm]
      exact h.record m
    · rw [hm, Eight.get_set_same, Eight.get_set_same]
      exact iff_of_true rfl rfl
    · rw [Eight.get_set_other _ _ hm, Eight.get_set_other _ _ hm]
      exact h.presence hrun m
  exact hevent.congr ⟨by rw [removal_frame], by rw [removal_frame], by rw [removal_frame]⟩

/-- R45: a presence high, by the state of the slot. -/
theorem SlotTableOk.presenceHigh {s : State} (h : SlotTableOk s) (n : SlotNo) :
    SlotTableOk (presenceHigh n { s with pres := s.pres.set n true }) := by
  cases hst : occupied (s.slots.get n).state with
  | true =>
    rw [presenceHigh_of_occupied (by exact hst)]
    exact h.removal hst
  | false =>
    rcases occupied_eq_false_iff.mp hst with hst | hst
    · rw [presenceHigh_of_empty (by exact hst)]
      have hhigh := h.updateSlot (n := n) (level := true) (h.record n) rfl rfl fun _ => by simp [hst]
      rwa [Eight.set_get] at hhigh
    · rw [presenceHigh_of_settling (by exact hst)]
      exact h.updateSlot ((h.record n).emptied hst) rfl rfl fun _ => by simp

/-- R46: the end of a settle time. -/
theorem SlotTableOk.insertion {s : State} (h : SlotTableOk s) {n : SlotNo} (hst : (s.slots.get n).state = .settling) :
    SlotTableOk (insertion n s) := by
  have hinserted : SlotTableOk { s with slots := s.slots.set n (insertedSlot (s.bus == .faulted) (s.slots.get n)) } := by
    refine h.setSlot ((h.record n).inserted hst _) ?_ ?_ ?_ <;> cases s.bus == .faulted
    · rfl
    · rfl
    · rfl
    · rfl
    · simp [insertedSlot, hst]
    · simp [insertedSlot, hst]
  unfold Machine.insertion
  refine SlotTableOk.congr ?_ (sameTable_raise ..)
  split
  next => exact hinserted
  next => exact hinserted.congr (sameTable_demandScan ..)

/-! ### Scans -/

theorem scannedSlot_state (img : List Byte) (r : Slot) : (scannedSlot img r).state = (validate img).classification := by
  rw [scannedSlot]

/-- R51: a scan of a slot with a module completes with 256 bytes. -/
theorem SlotTableOk.completeScan {s : State} (h : SlotTableOk s) {n : SlotNo} {img : List Byte}
    (hst : occupied (s.slots.get n).state = true) (himg : img.length = 256) : SlotTableOk (completeScan n img s) := by
  have hrecord := (h.record n).scanned hst himg
  rw [completeScan_eq]
  refine slotTableOk_slotEvent _ (fun m => ?_) fun hrun m => ?_ <;> by_cases hm : m = n
  · rw [hm, scannedSlots, Eight.get_set_same]
    exact hrecord
  · rw [scannedSlots, Eight.get_set_other _ _ hm]
    exact h.record m
  · have hold : (s.slots.get n).state ≠ .empty := (occupied_iff.mp hst).1
    have hnew : occupied (scannedSlot img (s.slots.get n)).state = true := by
      rw [scannedSlot_state]
      exact occupied_of_classified (validate_classified img)
    rw [hm, scannedSlots, Eight.get_set_same, h.presence hrun n]
    exact iff_of_false hold (occupied_iff.mp hnew).1
  · rw [scannedSlots, Eight.get_set_other _ _ hm]
    exact h.presence hrun m

/-- R53: scans of slots with modules fail. -/
theorem SlotTableOk.failScans {s : State} (h : SlotTableOk s) {ns : List SlotNo} (c : UnreadableCause)
    (hst : ∀ n ∈ ns, occupied (s.slots.get n).state = true) : SlotTableOk (failScans ns c s) := by
  refine slotTableOk_slotEvent _ (fun m => ?_) fun hrun m => ?_ <;> rw [Eight.get_ofFn] <;> split
  next hm => exact (h.record m).failed (hst m (List.contains_iff_mem.mp hm)) c
  next => exact h.record m
  next hm =>
    have hold : (s.slots.get m).state ≠ .empty := (occupied_iff.mp (hst m (List.contains_iff_mem.mp hm))).1
    rw [h.presence hrun m]
    exact iff_of_false hold (fun h => nomatch h)
  next => exact h.presence hrun m

/-- R56: the slots lost to the bus are read again. -/
theorem SlotTableOk.recoveryRescans {s : State} (h : SlotTableOk s) : SlotTableOk (recoveryRescans s) := by
  have hreread : SlotTableOk { s with slots := rereadSlots s.slots } := by
    have hget (n : SlotNo) : lostToBus (s.slots.get n) = true ∧
        (rereadSlots s.slots).get n = { s.slots.get n with state := .reading, cause := none } ∨
          (rereadSlots s.slots).get n = s.slots.get n := by
      cases hlost : lostToBus (s.slots.get n) with
      | true => exact .inl ⟨rfl, rereadSlots_get_of_lost hlost⟩
      | false => exact .inr (rereadSlots_get_of_not_lost hlost)
    refine h.update (fun n => ?_) (fun n => ?_) (fun n => ?_) fun hrun n => (h.presence hrun n).trans ?_ <;>
      rcases hget n with ⟨hlost, hn⟩ | hn <;> dsimp only <;> rw [hn]
    · exact (h.record n).reread (lostToBus_iff.mp hlost).1
    · exact h.record n
    · simp [(lostToBus_iff.mp hlost).1]
  rw [recoveryRescans_eq, demandScans_frame]
  exact hreread.congr ⟨rfl, rfl, rfl⟩

theorem mem_presenceScanSlots {n : SlotNo} {js : List Job} :
    n ∈ presenceScanSlots js ↔ ∃ j ∈ js, j.work = .scan n ∧ j.presence = true := by
  rw [presenceScanSlots, List.mem_filterMap]
  refine exists_congr fun j => and_congr_right fun _ => ?_
  cases j.work <;> simp [and_comm]

/-- The slots of waiting presence scans have modules. -/
theorem QueueInv.occupied_of_mem {s : State} (h : QueueInv s) {n : SlotNo} (hn : n ∈ presenceScanSlots s.jobs) :
    occupied (s.slots.get n).state = true := by
  obtain ⟨j, hj, hwork, _⟩ := mem_presenceScanSlots.mp hn
  obtain ⟨_, _, _, _, hslot⟩ := h.1 j hj
  exact hslot n (by rw [hwork]; rfl)

/-- R82: the bus enters FAULTED. -/
theorem SlotTableOk.enterFaulted {s : State} (h : SlotTableOk s)
    (hst : ∀ n ∈ presenceScanSlots s.jobs, occupied (s.slots.get n).state = true) (announce : Bool) :
    SlotTableOk (enterFaulted announce s) := by
  have hended : SameTable s (endTags .busFault [] (s.jobs.flatMap Job.tags)
      { s with bus := .faulted, inFlight := none, jobs := [] }) := ⟨by simp, by simp, by simp⟩
  have hfailed := (h.congr hended).failScans .bus fun n hn => by
    rw [hended.slots]
    exact hst n hn
  unfold Machine.enterFaulted
  dsimp only
  split
  next => exact hfailed.congr (sameTable_raise ..)
  next => exact hfailed

/-! ### User pages -/

theorem SlotTableOk.changeCopy {s : State} (h : SlotTableOk s) {n : SlotNo} {change : ImageCopy → ImageCopy}
    (hrecord : RecordOk { s.slots.get n with image := (s.slots.get n).image.map change }) :
    SlotTableOk (changeCopy n change s) := h.setSlot hrecord rfl rfl Iff.rfl

theorem SlotTableOk.invalidatePage {s : State} (h : SlotTableOk s) (n : SlotNo) {off : Nat} (hoff : 208 ≤ off) :
    SlotTableOk (Machine.changeCopy n (invalidatePage off) s) := h.changeCopy ((h.record n).pageInvalidated hoff)

theorem SlotTableOk.writePage {s : State} (h : SlotTableOk s) (n : SlotNo) {off : Nat} (hoff : 208 ≤ off)
    (data : List Byte) : SlotTableOk (Machine.changeCopy n (writePage off data) s) :=
  h.changeCopy ((h.record n).pageWritten hoff data)

/-- The pages of the user area begin in it. -/
theorem le_pageStart {off : Nat} (hoff : 208 ≤ off) : 208 ≤ pageStart off := by unfold pageStart; omega

/-! ### The job in flight -/

/-- What the Slot Table needs of the job in flight: an unmarked SCAN finds a module, a write is in the user area. -/
structure DeliverOk (s : State) (f : InFlight) : Prop where
  scan : ∀ n, f.job.work = .scan n → f.stopMark = false → occupied (s.slots.get n).state = true
  userArea : ∀ n off data, f.job.work = .userWrite n off data → 208 ≤ off

theorem FlightOk.deliverOk {s : State} {f : InFlight} (h : FlightOk s f) : DeliverOk s f := by
  obtain ⟨hwork, hprogress, _, _, _, _, _, hslot⟩ := h
  refine ⟨fun n hscan hmark => hslot n (by rw [hscan]; rfl) hmark fun hstop => ?_, fun n off data huser => ?_⟩
  · simp [progressOk, hscan, hstop] at hprogress
  · rw [huser] at hwork
    simp only [workOk, Bool.and_eq_true, decide_eq_true_eq] at hwork
    obtain ⟨⟨⟨hoff, _⟩, _⟩, _⟩ := hwork
    exact hoff

theorem DeliverOk.noteAcked {s : State} {f : InFlight} (h : DeliverOk s f) (acked : Bool) :
    DeliverOk s (noteAcked acked f) := ⟨h.scan, h.userArea⟩

theorem SlotTableOk.deliverFailure {s : State} (h : SlotTableOk s) {f : InFlight} (hf : DeliverOk s f)
    (hmark : f.stopMark = false) (c : UnreadableCause) (st : Status) : SlotTableOk (deliverFailure f c st s) := by
  unfold Machine.deliverFailure
  split
  next n hwork =>
    refine SlotTableOk.congr (h.failScans c fun m hm => ?_) (sameTable_endTags ..)
    rw [List.mem_singleton.mp hm]
    exact hf.scan n hwork hmark
  next => exact h.congr (sameTable_endTags ..)
  next n off data hwork =>
    refine SlotTableOk.congr ?_ (sameTable_endTags ..)
    split
    next => exact h.invalidatePage n (hf.userArea n off data hwork)
    next => exact h
  next => exact h

theorem SlotTableOk.transactionEnd {s : State} (h : SlotTableOk s) {f : InFlight} (hf : DeliverOk s f) :
    SlotTableOk (transactionEnd f s) := by
  unfold Machine.transactionEnd
  split
  next => exact h.congr (sameTable_endStopped ..)
  next hmark =>
    split
    next => exact h.congr ⟨rfl, rfl, rfl⟩
    next =>
      exact (h.deliverFailure hf (Bool.eq_false_iff.mpr hmark) _ _).congr (sameTable_finishJob _)

theorem SlotTableOk.stuckFailure {s : State} (h : SlotTableOk s) {f : InFlight} (hf : DeliverOk s f) :
    SlotTableOk (stuckFailure f s) := by
  unfold Machine.stuckFailure
  split
  next => exact h.congr (sameTable_endTags ..)
  next hmark => exact h.deliverFailure hf (Bool.eq_false_iff.mpr hmark) _ _

theorem SlotTableOk.segmentEnd {s : State} (h : SlotTableOk s) {f : InFlight} (hf : DeliverOk s f) {n : SlotNo}
    (hwork : f.job.work = .scan n) (bytes : List Byte) : SlotTableOk (segmentEnd n f bytes s) := by
  unfold Machine.segmentEnd
  dsimp only
  split
  next => exact h.congr (sameTable_endStopped ..)
  next hmark =>
    split
    next hlength =>
      have himg : ((f.bytesRead ++ bytes).take 256).length = 256 := by rw [List.length_take, Nat.min_eq_left hlength]
      have hdone := h.completeScan (hf.scan n hwork (Bool.eq_false_iff.mpr hmark)) himg
      exact (hdone.congr (sameTable_endTags ..)).congr (sameTable_finishJob _)
    next => exact h.congr ⟨rfl, rfl, rfl⟩

theorem SlotTableOk.pollEnd {s : State} (h : SlotTableOk s) (f : InFlight) (n : SlotNo) {off : Nat} (hoff : 208 ≤ off)
    (acked : Bool) : SlotTableOk (pollEnd f n off acked s) := by
  unfold Machine.pollEnd
  split_ifs
  · exact h.congr ⟨rfl, rfl, rfl⟩
  · exact h.congr ⟨rfl, rfl, rfl⟩
  · exact ((h.invalidatePage n hoff).congr (sameTable_endTags ..)).congr (sameTable_finishJob _)

theorem SlotTableOk.readBackEnd {s : State} (h : SlotTableOk s) (f : InFlight) (n : SlotNo) {off : Nat} (hoff : 208 ≤ off)
    (data page : List Byte) : SlotTableOk (readBackEnd f n off data page s) := by
  unfold Machine.readBackEnd
  split
  next => exact ((h.writePage n hoff data).congr (sameTable_endTags ..)).congr (sameTable_finishJob _)
  next => exact ((h.writePage n (le_pageStart hoff) page).congr (sameTable_endTags ..)).congr (sameTable_finishJob _)

/-- R80 to R84: the end of a recovery. -/
theorem SlotTableOk.recoveryOutcome {s : State} (h : SlotTableOk s)
    (hst : ∀ n ∈ presenceScanSlots s.jobs, occupied (s.slots.get n).state = true) (free : Bool) :
    SlotTableOk (recoveryOutcome free s) := by
  unfold Machine.recoveryOutcome
  split
  next f _ =>
    have hended := h.congr (sameTable_endTags .busFault [] f.job.tags s)
    have hrecovered : SlotTableOk
        (raise .busRecovered (endTags .ok [] f.job.tags { s with inFlight := none, bus := .idle })) :=
      h.congr ⟨by simp, by simp, by simp⟩
    unfold recoverEnd
    split
    · exact (h.congr (sameTable_endTags ..)).congr (sameTable_finishJob _)
    · exact hended.enterFaulted (by simpa using hst) _
    · exact hrecovered.recoveryRescans.congr (sameTable_startNext _)
    · exact hended.enterFaulted (by simpa using hst) _
  next =>
    split
    next =>
      have hidle : SameTable s { s with bus := .idle } := ⟨rfl, rfl, rfl⟩
      exact h.congr (hidle.trans (sameTable_startNext _))
    next => exact h.enterFaulted hst _

/-! ### Every command -/

/-- Every command keeps the Slot Table right. -/
theorem Inv.slotTable_exec {s t : State} (h : Inv s) {c : Instr} (ht : exec c s = .next t) : SlotTableOk t := by
  have hs := h.slotTable
  have hdeliver {f : InFlight} (hf : s.inFlight = some f) : DeliverOk s f := (h.flight f hf).deliverOk
  cases hframe : requestFrame c with
  | some frame => exact linkKeeps_slotTableOk.exec_request hframe hs ht
  | none =>
    cases c with
    | lineReset =>
      cases ht
      exact slotTableOk_reset _
    | lineResetRelease rate pres =>
      rcases exec_lineResetRelease_cases ht with rfl | ⟨hreset, rfl⟩
      · exact hs
      · exact slotTableOk_releaseReset h hreset rate pres
    | presenceLow n =>
      rcases exec_presenceLow_cases ht with ⟨_, rfl⟩ | ⟨_, rfl⟩
      · exact hs
      · exact hs.startSettling h.settings.settleTime
    | presenceHigh n =>
      rcases exec_presenceHigh_cases ht with ⟨_, rfl⟩ | ⟨_, rfl⟩
      · exact hs
      · exact hs.presenceHigh n
    | settleExpiry n =>
      rcases exec_settleExpiry_cases ht with rfl | ⟨hst, rfl⟩
      · exact hs
      · exact hs.insertion hst
    | segmentDone bytes =>
      rcases exec_segmentDone_cases ht with rfl | ⟨f, n, hf, hwork, _, rfl⟩
      · exact hs
      · exact hs.segmentEnd (hdeliver hf) hwork bytes
    | transactionFailed acked =>
      rcases exec_transactionFailed_cases ht with rfl | ⟨f, hf, _, rfl⟩
      · exact hs
      · exact hs.transactionEnd ((hdeliver hf).noteAcked acked)
    | retryTimerExpiry =>
      rcases exec_retryTimerExpiry_cases ht with rfl | ⟨f, _, _, ⟨_, rfl⟩ | ⟨_, rfl⟩⟩
      · exact hs
      · exact hs.congr (sameTable_endStopped ..)
      · exact hs.congr ⟨rfl, rfl, rfl⟩
    | stuckBus acked =>
      rcases exec_stuckBus_cases ht with rfl | ⟨f, hf, _, rfl⟩
      · exact hs
      · exact (hs.stuckFailure ((hdeliver hf).noteAcked acked)).congr ⟨rfl, rfl, rfl⟩
    | recoveryEnd looks scl sda =>
      rcases exec_recoveryEnd_cases ht with rfl | ⟨_, rfl⟩
      · exact hs
      · have hlooked : SlotTableOk { s with pulses := pulsesSent looks } := hs.congr ⟨rfl, rfl, rfl⟩
        exact hlooked.recoveryOutcome (fun n hn => h.queue.occupied_of_mem hn) _
    | moduleReadDone bytes =>
      rcases exec_moduleReadDone_cases ht with rfl | ⟨f, _, _, _, _, _, rfl | rfl⟩
      · exact hs
      · exact hs.congr (sameTable_endStopped ..)
      · exact (hs.congr (sameTable_endTags ..)).congr (sameTable_finishJob _)
    | pageWriteDone =>
      rcases exec_pageWriteDone_cases ht with rfl | ⟨f, _, _, rfl⟩
      · exact hs
      · exact hs.congr ⟨rfl, rfl, rfl⟩
    | pollTimerExpiry =>
      rcases exec_pollTimerExpiry_cases ht with rfl | ⟨f, _, _, rfl⟩
      · exact hs
      · exact hs.congr ⟨rfl, rfl, rfl⟩
    | pollDone acked =>
      rcases exec_pollDone_cases ht with rfl | ⟨f, n, off, data, hf, hwork, _, rfl⟩
      · exact hs
      · exact hs.pollEnd f n ((hdeliver hf).userArea n off data hwork) acked
    | readBackDone bytes =>
      rcases exec_readBackDone_cases ht with rfl | ⟨f, n, off, data, hf, hwork, rfl⟩
      · exact hs
      · exact hs.readBackEnd f n ((hdeliver hf).userArea n off data hwork) data bytes
    | userWriteAbandonEnd =>
      rcases exec_userWriteAbandonEnd_cases ht with rfl | ⟨_, _, _, rfl⟩
      · exact hs
      · exact hs.congr (sameTable_finishJob _)
    | resolutionComplete =>
      rcases exec_resolutionComplete_cases ht with rfl | ⟨w, e, tag, sn, rfl⟩
      · exact hs
      · exact hs.congr ⟨by simp [resolutionEnd], by simp [resolutionEnd], by simp [resolutionEnd]⟩
    | characterDropped =>
      cases ht
      exact hs
    | byteReceived b => exact linkKeeps_slotTableOk.exec_byteReceived hs ht
    | gapExpiry => exact linkKeeps_slotTableOk.exec_gapExpiry hs ht
    | replySendStart =>
      rcases exec_replySendStart_cases ht with rfl | ⟨r, rest, rfl⟩
      · exact hs
      · exact hs.congr ⟨rfl, rfl, rfl⟩
    | replySent =>
      rcases exec_replySent_cases ht with rfl | rfl | ⟨_, rfl⟩
      · exact hs
      · exact hs.congr ⟨rfl, rfl, rfl⟩
      · exact slotTableOk_fullReset _
    | _ => exact nomatch hframe

/-- Settles O57, command by command: frames keep the Slot Table, and each event keeps it by what it does to the records. -/
theorem stepKeepsSlotRecords : Obligations.StepKeepsSlotRecords := by
  intro s t h ht
  have htable : SlotTableOk t := by
    rcases step_cases ht with rfl | ⟨c, rest, hexec⟩
    · exact h.slotTable
    · exact (h.withPending rest).slotTable_exec hexec
  obtain ⟨hslots, hverdict⟩ := (slotInv_verdictInv_iff t).mpr htable.record
  exact ⟨hslots, htable.clash, htable.presence, hverdict⟩

end Sys2Proof.Machine
end

section
/-! The bus and its queue (R46, R50, R65 to R70, R82): what keeps them right, operation by operation. -/

namespace Sys2Proof.Machine

/-- Out of a line reset: every slot in READING has its presence scan, the queue is right, a RECOVER in flight recovers. -/
structure ScansOk (s : State) : Prop where
  run : s.resetAsserted = false
  reading : ReadingInv s
  queue : QueueInv s
  recovery : ∀ f, s.inFlight = some f → f.job.work = .recover → f.activity = .recovery

/-- With it the bus state agrees with the job in flight and the queue. -/
structure BusOk (s : State) : Prop extends ScansOk s where
  bus : BusInv s

/-- With it the bus is IDLE, its next job to be started, or in agreement already. -/
structure BusReady (s : State) : Prop extends ScansOk s where
  bus : s.bus = .idle ∧ s.inFlight = none ∨ BusInv s

theorem Inv.busOk {s : State} (h : Inv s) (hrun : s.resetAsserted = false) : BusOk s := by
  refine ⟨⟨hrun, h.reading, h.queue, fun f hf hwork => ?_⟩, h.bus⟩
  obtain ⟨_, hprogress, _⟩ := h.flight f hf
  simpa [progressOk, hwork] using hprogress

/-! ### The bus state -/

theorem BusInv.idle {s : State} (h : BusInv s) (hbus : s.bus = .idle) : s.inFlight = none ∧ s.jobs = [] := by
  unfold BusInv at h
  cases hf : s.inFlight with
  | none => simpa [hbus, hf] using h
  | some f => simp [hbus, hf] at h

theorem BusInv.faulted {s : State} (h : BusInv s) (hbus : s.bus = .faulted) : s.inFlight = none ∧ s.jobs = [] := by
  unfold BusInv at h
  cases hf : s.inFlight with
  | none => simpa [hbus, hf] using h
  | some f => simp [hbus, hf] at h

theorem busInv_of_empty {s : State} (hflight : s.inFlight = none) (hjobs : s.jobs = []) (hbusy : s.bus ≠ .busy) :
    BusInv s := by
  unfold BusInv
  cases hbus : s.bus with
  | busy => exact absurd hbus hbusy
  | _ => simp [hflight, hjobs]

theorem busInv_recovering {s : State} (hflight : s.inFlight = none) (hbus : s.bus = .recovering) : BusInv s := by
  simp [BusInv, hflight, hbus]

/-- A job in flight is on a BUSY bus, a RECOVER on a RECOVERING one. -/
theorem busInv_flight {s : State} {f : InFlight} (hf : s.inFlight = some f)
    (hbus : s.bus = if f.job.work = .recover then .recovering else .busy) : BusInv s := by
  unfold BusInv
  split at hbus
  next h => simp [hf, hbus, h]
  next h => simp [hf, hbus, h]

theorem BusInv.flight {s : State} (h : BusInv s) {f : InFlight} (hf : s.inFlight = some f) :
    s.bus = if f.job.work = .recover then .recovering else .busy := by
  unfold BusInv at h
  cases hbus : s.bus with
  | idle => simp [hbus, hf] at h
  | faulted => simp [hbus, hf] at h
  | busy => simpa [hbus, hf] using h
  | recovering => simpa [hbus, hf] using h

/-- With a job in flight, or off IDLE and FAULTED, the queue takes no part. -/
theorem BusInv.withJobs {s : State} (h : BusInv s) (js : List Job) (hidle : s.bus ≠ .idle) (hfaulted : s.bus ≠ .faulted) :
    BusInv { s with jobs := js } := by
  cases hf : s.inFlight with
  | some f => exact busInv_flight rfl (h.flight hf)
  | none =>
    refine busInv_recovering rfl ?_
    unfold BusInv at h
    cases hbus : s.bus with
    | recovering => rfl
    | idle => exact absurd hbus hidle
    | faulted => exact absurd hbus hfaulted
    | busy => simp [hbus, hf] at h

/-- Of an empty queue nothing is left. -/
theorem BusInv.withFewer {s : State} (h : BusInv s) {js : List Job} (hjs : s.jobs = [] → js = []) :
    BusInv { s with jobs := js } := by
  by_cases hidle : s.bus = .idle
  · obtain ⟨hflight, hjobs⟩ := h.idle hidle
    exact busInv_of_empty hflight (hjs hjobs) (by simp [hidle])
  · by_cases hfaulted : s.bus = .faulted
    · obtain ⟨hflight, hjobs⟩ := h.faulted hfaulted
      exact busInv_of_empty hflight (hjs hjobs) (by simp [hfaulted])
    · exact h.withJobs js hidle hfaulted

/-! ### Changes that the bus does not see -/

/-- Bus, queue and job in flight as they were; no module has gone, no slot has gone to READING. -/
structure BusAlike (s t : State) : Prop where
  run : t.resetAsserted = s.resetAsserted
  bus : t.bus = s.bus
  jobs : t.jobs = s.jobs
  flight : t.inFlight = s.inFlight
  occupied : ∀ n, occupied (s.slots.get n).state = true → occupied (t.slots.get n).state = true
  reading : ∀ n, (t.slots.get n).state = .reading → (s.slots.get n).state = .reading

theorem BusAlike.trans {s t u : State} (h : BusAlike s t) (h' : BusAlike t u) : BusAlike s u :=
  ⟨h'.run.trans h.run, h'.bus.trans h.bus, h'.jobs.trans h.jobs, h'.flight.trans h.flight,
    fun n hn => h'.occupied n (h.occupied n hn), fun n hn => h.reading n (h'.reading n hn)⟩

/-- The slot records as they were. -/
theorem busAlike_of_eq {s t : State} (hrun : t.resetAsserted = s.resetAsserted) (hslots : t.slots = s.slots)
    (hbus : t.bus = s.bus) (hjobs : t.jobs = s.jobs) (hflight : t.inFlight = s.inFlight) : BusAlike s t :=
  ⟨hrun, hbus, hjobs, hflight, fun _ h => hslots ▸ h, fun _ h => hslots ▸ h⟩

theorem Quiet.busAlike {s t : State} (h : Quiet s t) : BusAlike s t :=
  busAlike_of_eq h.reset h.slots h.bus h.jobs h.inFlight

theorem WaitingOk.mono {s t : State} {j : Job} (h : WaitingOk s j)
    (hst : ∀ n, slotOfWork j.work = some n → occupied (s.slots.get n).state = true →
      occupied (t.slots.get n).state = true) : WaitingOk t j := by
  obtain ⟨hwork, hclaim, hpresence, htags, hslot⟩ := h
  exact ⟨hwork, hclaim, hpresence, htags, fun n hn => hst n hn (hslot n hn)⟩

/-- Some of the waiting jobs, their modules still there. -/
theorem QueueInv.sublist {s t : State} (h : QueueInv s) (hjobs : t.jobs.Sublist s.jobs)
    (hst : ∀ j ∈ t.jobs, ∀ n, slotOfWork j.work = some n → occupied (s.slots.get n).state = true →
      occupied (t.slots.get n).state = true) : QueueInv t :=
  ⟨fun j hj => (h.1 j (hjobs.subset hj)).mono (hst j hj), h.2.sublist (hjobs.filterMap scanSlot)⟩

theorem QueueInv.congr {s t : State} (h : QueueInv s) (ha : BusAlike s t) : QueueInv t :=
  h.sublist (ha.jobs ▸ List.Sublist.refl _) fun _ _ n _ => ha.occupied n

theorem ReadingInv.congr {s t : State} (h : ReadingInv s) (ha : BusAlike s t) : ReadingInv t := fun n hn => by
  rw [ha.jobs, ha.flight]
  exact h n (ha.reading n hn)

theorem ScansOk.congr {s t : State} (h : ScansOk s) (ha : BusAlike s t) : ScansOk t :=
  ⟨ha.run.trans h.run, h.reading.congr ha, h.queue.congr ha, ha.flight ▸ h.recovery⟩

theorem BusInv.congr {s t : State} (h : BusInv s) (hbus : t.bus = s.bus) (hjobs : t.jobs = s.jobs)
    (hflight : t.inFlight = s.inFlight) : BusInv t := by
  unfold BusInv
  rw [hbus, hjobs, hflight]
  exact h

theorem BusOk.congr {s t : State} (h : BusOk s) (ha : BusAlike s t) : BusOk t :=
  ⟨h.toScansOk.congr ha, h.bus.congr ha.bus ha.jobs ha.flight⟩

theorem busAlike_answer (tag kind : Byte) (st : Status) (payload : List Byte) (s : State) :
    BusAlike s (answer tag kind st payload s) := busAlike_of_eq rfl rfl rfl rfl rfl

theorem busAlike_endTags (st : Status) (payload : List Byte) (tags : List Byte) (s : State) :
    BusAlike s (endTags st payload tags s) := busAlike_of_eq (by simp) (by simp) (by simp) (by simp) (by simp)

theorem busAlike_endRequest (st : Status) (payload : List Byte) (tag : Byte) (s : State) :
    BusAlike s (endRequest st payload tag s) := busAlike_of_eq (by simp) (by simp) (by simp) (by simp) (by simp)

theorem busAlike_raise (b : NoticeBody) (s : State) : BusAlike s (raise b s) :=
  busAlike_of_eq (by simp) (by simp) (by simp) (by simp) (by simp)

/-- A change of one slot's state that takes no module away and does not begin READING. -/
theorem busAlike_setSlot {s : State} {n : SlotNo} {r : Slot}
    (hoccupied : occupied (s.slots.get n).state = true → occupied r.state = true)
    (hreading : r.state = .reading → (s.slots.get n).state = .reading) :
    BusAlike s { s with slots := s.slots.set n r } := by
  refine ⟨rfl, rfl, rfl, rfl, fun m hm => ?_, fun m hm => ?_⟩ <;> by_cases hmn : m = n
  · rw [hmn, Eight.get_set_same]
    exact hoccupied (hmn ▸ hm)
  · rwa [Eight.get_set_other _ _ hmn]
  · rw [hmn, Eight.get_set_same] at hm
    exact hmn ▸ hreading hm
  · rwa [Eight.get_set_other _ _ hmn] at hm

theorem busAlike_changeCopy (n : SlotNo) (change : ImageCopy → ImageCopy) (s : State) :
    BusAlike s (changeCopy n change s) := busAlike_setSlot id id

/-! ### Slots in READING whose scan waits -/

/-- Every slot in READING has a presence scan that waits. -/
def QueuedReading (s : State) : Prop := ∀ n, (s.slots.get n).state = .reading → s.jobs.any (presenceScanOf n) = true

theorem QueuedReading.congr {s t : State} (h : QueuedReading s) (ha : BusAlike s t) : QueuedReading t := fun n hn => by
  rw [ha.jobs]
  exact h n (ha.reading n hn)

/-- A job in flight that is no presence scan, or is marked, leaves all of READING to the queue. -/
theorem ReadingInv.queued {s : State} (h : ReadingInv s)
    (hflight : ∀ f, s.inFlight = some f → f.stopMark = true ∨ ∀ n, presenceScanOf n f.job = false) :
    QueuedReading s := fun n hn => by
  rcases h n hn with hjob | ⟨f, hf, hscan, hmark⟩
  · exact hjob
  · rcases hflight f hf with hmarked | hother
    · rw [hmark] at hmarked
      exact nomatch hmarked
    · rw [hother n] at hscan
      exact nomatch hscan

/-- Once the slot of the job in flight is not in READING, all of READING is left to the queue. -/
theorem ReadingInv.queued_of_slot {s : State} (h : ReadingInv s) {f : InFlight} {n : SlotNo} (hf : s.inFlight = some f)
    (hslot : slotOfWork f.job.work = some n) (hn : (s.slots.get n).state ≠ .reading) : QueuedReading s := fun m hm => by
  rcases h m hm with hjob | ⟨g, hg, hscan, _⟩
  · exact hjob
  · obtain rfl := Option.some.inj (hf.symm.trans hg)
    rw [(presenceScanOf_iff.mp hscan).1] at hslot
    obtain rfl : m = n := Option.some.inj hslot
    exact absurd hm hn

theorem presenceScanOf_of_not_presence {j : Job} (h : j.presence = false) (n : SlotNo) : presenceScanOf n j = false := by
  simp [presenceScanOf, h]

theorem presenceScanOf_of_work_ne {j : Job} {n : SlotNo} (h : j.work ≠ .scan n) : presenceScanOf n j = false := by
  simp [presenceScanOf, isScanOf, h]

/-! ### Jobs start and end -/

theorem QueueInv.tail {s : State} {j : Job} {rest : List Job} (h : QueueInv s) (hjobs : s.jobs = j :: rest) :
    QueueInv { s with jobs := rest } :=
  h.sublist (hjobs ▸ List.sublist_cons_self j rest) fun _ _ _ _ => id

/-- The oldest waiting job starts: its slot in READING stays covered by it. -/
theorem busOk_startJob {s : State} {j : Job} {rest : List Job} (hrun : s.resetAsserted = false)
    (hjobs : s.jobs = j :: rest) (hqueue : QueueInv s) (hreading : QueuedReading s) :
    BusOk (startJob j false { s with jobs := rest }) := by
  refine ⟨⟨hrun, fun n hn => ?_, hqueue.tail hjobs, fun f hf hwork => ?_⟩, busInv_flight rfl rfl⟩
  · have hcovered := hreading n hn
    rw [hjobs, List.any_cons, Bool.or_eq_true] at hcovered
    rcases hcovered with hj | hrest
    · exact .inr ⟨launch j false, rfl, hj, rfl⟩
    · exact .inl hrest
  · cases hf
    exact if_pos hwork

/-- With the bus IDLE the next job starts; otherwise nothing does. -/
theorem BusReady.startNext {s : State} (h : BusReady s) : BusOk (startNext s) := by
  by_cases hbus : s.bus = .idle
  · have hflight : s.inFlight = none := h.bus.elim And.right fun hinv => (hinv.idle hbus).1
    cases hjobs : s.jobs with
    | nil =>
      rw [startNext_no_job hjobs]
      exact ⟨h.toScansOk, busInv_of_empty hflight hjobs (by simp [hbus])⟩
    | cons j rest =>
      rw [startNext_idle hbus hjobs]
      exact busOk_startJob h.run hjobs h.queue (h.reading.queued fun f hf => by rw [hflight] at hf; exact nomatch hf)
  · rw [startNext_not_idle hbus]
    exact ⟨h.toScansOk, h.bus.elim (fun hidle => absurd hidle.1 hbus) id⟩

/-- The job in flight ends where all of READING is left to the queue. -/
theorem busOk_finishJob {s : State} (hrun : s.resetAsserted = false) (hqueue : QueueInv s) (hreading : QueuedReading s) :
    BusOk (finishJob s) := by
  refine BusReady.startNext ⟨⟨hrun, fun n hn => .inl (hreading n hn), ?_, fun f hf => nomatch hf⟩, .inl ⟨rfl, rfl⟩⟩
  exact hqueue.sublist (List.Sublist.refl _) fun _ _ _ _ => id

theorem ScansOk.finishJob {s t : State} (h : ScansOk s) (hreading : QueuedReading s) (ha : BusAlike s t) :
    BusOk (finishJob t) :=
  busOk_finishJob (ha.run.trans h.run) (h.queue.congr ha) (hreading.congr ha)

/-- Other jobs in the queue, demands kept, where the bus is not FAULTED: ready for the start of one. -/
theorem BusOk.ready {s : State} (h : BusOk s) (hfaulted : s.bus ≠ .faulted) {js : List Job}
    (hqueue : QueueInv { s with jobs := js })
    (hkeeps : ∀ n, s.jobs.any (presenceScanOf n) = true → js.any (presenceScanOf n) = true) :
    BusReady { s with jobs := js } := by
  refine ⟨⟨h.run, fun n hn => (h.reading n hn).imp_left (hkeeps n), hqueue, h.recovery⟩, ?_⟩
  by_cases hidle : s.bus = .idle
  · exact .inl ⟨hidle, (h.bus.idle hidle).1⟩
  · exact .inr (h.bus.withJobs js hidle hfaulted)

/-! ### The job in flight -/

/-- The job in flight goes on: same work and claim, same mark. -/
theorem BusOk.progress {s : State} (h : BusOk s) {f g : InFlight} (hf : s.inFlight = some f)
    (hwork : g.job.work = f.job.work) (hpresence : g.job.presence = f.job.presence) (hmark : g.stopMark = f.stopMark)
    (hrecovery : f.job.work = .recover → g.activity = .recovery) : BusOk { s with inFlight := some g } := by
  refine ⟨⟨h.run, fun n hn => (h.reading n hn).imp_right ?_, ?_, fun g' hg hg' => ?_⟩, ?_⟩
  · rintro ⟨f', hf', hscan, hunmarked⟩
    obtain rfl := Option.some.inj (hf.symm.trans hf')
    refine ⟨g, rfl, ?_, hmark.trans hunmarked⟩
    rw [← hscan, presenceScanOf, presenceScanOf, isScanOf, isScanOf, hwork, hpresence]
  · exact h.queue.sublist (List.Sublist.refl _) fun _ _ _ _ => id
  · obtain rfl := Option.some.inj hg
    exact hrecovery (hwork ▸ hg')
  · refine busInv_flight (f := g) rfl ?_
    rw [hwork]
    exact h.bus.flight hf

/-- A marked job ends where all of READING is left to the queue. -/
theorem BusOk.endStopped {s : State} (h : BusOk s) (hreading : QueuedReading s) (f : InFlight) : BusOk (endStopped f s) :=
  h.toScansOk.finishJob hreading (busAlike_endTags ..)

/-- The job in flight is marked, or ends at once, where all of READING is left to the queue. -/
theorem BusOk.markToStop {s : State} (h : BusOk s) (hreading : QueuedReading s) {f g : InFlight}
    (hf : s.inFlight = some f) (hwork : g.job.work = f.job.work) (hother : f.job.work ≠ .recover) :
    BusOk (markToStop g s) := by
  unfold Machine.markToStop
  split
  next => exact h.endStopped hreading g
  next =>
    refine ⟨⟨h.run, fun n hn => .inl (hreading n hn), ?_, fun g' hg hg' => ?_⟩, ?_⟩
    · exact h.queue.sublist (List.Sublist.refl _) fun _ _ _ _ => id
    · obtain rfl := Option.some.inj hg
      exact absurd (hwork.symm.trans hg') hother
    · refine busInv_flight (f := { g with stopMark := true }) rfl ?_
      rw [show ({ g with stopMark := true } : InFlight).job.work = f.job.work from hwork]
      exact h.bus.flight hf

/-! ### Demands -/

/-- The slots of waiting SCANs are told by the works. -/
theorem filterMap_scanSlot_eq (js : List Job) :
    js.filterMap scanSlot =
      (js.map Job.work).filterMap fun w => scanSlot { work := w, presence := false, tags := [] } :=
  (List.filterMap_map (f := Job.work) (g := fun w => scanSlot { work := w, presence := false, tags := [] })).symm

theorem scanSlot_eq_some_iff {j : Job} {n : SlotNo} : scanSlot j = some n ↔ j.work = .scan n := by
  unfold scanSlot
  cases j.work <;> simp

theorem isScan_iff {j : Job} : isScan j = true ↔ ∃ n, j.work = .scan n := by
  unfold isScan
  cases j.work <;> simp

/-- A demand with a claim, for a slot with a module. -/
theorem QueueInv.enqueueScan {s : State} (h : QueueInv s) {n : SlotNo} {p : Bool} {ts : List Byte}
    (hst : occupied (s.slots.get n).state = true) (hclaim : p = true ∨ ts ≠ []) : QueueInv (enqueueScan n p ts s) := by
  have hclaimless : (ts.isEmpty && !p) = false := by
    rcases hclaim with rfl | hts
    · simp
    · simp [hts]
  have hnew : WaitingOk s { work := .scan n, presence := p, tags := ts } :=
    ⟨rfl, hclaimless, fun _ => rfl, (fun hscan => nomatch hscan), fun m hm => by rwa [← Option.some.inj hm]⟩
  have hslots : (Machine.enqueueScan n p ts s).slots = s.slots := by simp
  refine ⟨fun j hj => WaitingOk.mono (s := s) ?_ fun m _ hm => hslots ▸ hm, ?_⟩
  · unfold Machine.enqueueScan at hj
    split at hj
    next =>
      rcases mem_joinScan hj with hj | ⟨k, hk, hwork, rfl⟩
      · exact h.1 j hj
      · obtain ⟨_, hclaimed, _, _, hslot⟩ := h.1 k hk
        refine ⟨by simp [workOk, hwork], ?_, fun _ => isScan_iff.mpr ⟨n, hwork⟩, fun hscan => ?_, hslot⟩
        · rw [claimless, Bool.and_eq_false_iff] at hclaimed ⊢
          refine hclaimed.imp (fun hk => ?_) fun hk => ?_
          · simp only [List.isEmpty_eq_false_iff] at hk ⊢
            exact List.append_ne_nil_of_left_ne_nil hk ts
          · simp_all
        · exact (Bool.eq_false_iff.mp hscan (isScan_iff.mpr ⟨n, hwork⟩)).elim
    next =>
      rcases List.mem_append.mp hj with hj | hj
      · exact h.1 j hj
      · exact List.mem_singleton.mp hj ▸ hnew
  · rw [filterMap_scanSlot_eq, enqueueScan_works, List.filterMap_append, ← filterMap_scanSlot_eq]
    split
    next => simpa using h.2
    next hwaiting =>
      refine List.Nodup.append h.2 (List.nodup_singleton n) (List.disjoint_singleton.mpr fun hmem => hwaiting ?_)
      obtain ⟨j, hj, hscan⟩ := List.mem_filterMap.mp hmem
      exact scanWaiting_iff.mpr ⟨j, hj, scanSlot_eq_some_iff.mp hscan⟩

/-- A job that is no SCAN joins the end of the queue. -/
theorem QueueInv.append {s : State} (h : QueueInv s) {j : Job} (hj : WaitingOk s j) (hscan : isScan j = false) :
    QueueInv { s with jobs := s.jobs ++ [j] } := by
  have hslot : scanSlot j = none := by
    refine Option.eq_none_iff_forall_ne_some.mpr fun n hn => ?_
    rw [isScan_iff.mpr ⟨n, scanSlot_eq_some_iff.mp hn⟩] at hscan
    exact nomatch hscan
  refine ⟨fun k hk => WaitingOk.mono (s := s) ?_ fun _ _ => id, ?_⟩
  · rcases List.mem_append.mp hk with hk | hk
    · exact h.1 k hk
    · exact List.mem_singleton.mp hk ▸ hj
  · rw [List.filterMap_append, List.filterMap_cons_none hslot, List.filterMap_nil, List.append_nil]
    exact h.2

end Sys2Proof.Machine
end

section
/-! The events of lines and bus at the bus (R44 to R50, R70 to R87): after each the queue, the job in flight and the slots in
READING agree again. -/

namespace Sys2Proof.Machine

/-! ### The states of slots after slot events -/

theorem slotEvent_state {own : SlotNo → Bool} {changed : Eight Slot} (bodies : List NoticeBody) (s : State) (m : SlotNo) :
    ((slotEvent own changed bodies s).slots.get m).state = (changed.get m).state := by
  rw [slotEvent_slots, commitSlots_get]

theorem failScans_state (ns : List SlotNo) (c : UnreadableCause) (s : State) (m : SlotNo) :
    ((failScans ns c s).slots.get m).state = if m ∈ ns then .unreadable else (s.slots.get m).state := by
  rw [failScans, slotEvent_state, Eight.get_ofFn]
  by_cases hm : m ∈ ns
  · simp [hm, failedSlot]
  · simp [hm]

/-- Failed scans take no module away, and no slot goes to READING. -/
theorem busAlike_failScans (ns : List SlotNo) (c : UnreadableCause) (s : State) : BusAlike s (failScans ns c s) := by
  refine ⟨by simp, by simp, by simp, by simp, fun m hm => ?_, fun m hm => ?_⟩ <;> rw [failScans_state] at *
  · split
    next => rfl
    next => exact hm
  · split at hm
    next => exact nomatch hm
    next => exact hm

theorem completeScan_state_other {n m : SlotNo} (img : List Byte) (s : State) (hm : m ≠ n) :
    ((completeScan n img s).slots.get m).state = (s.slots.get m).state := by rw [completeScan_get_other img s hm]

/-- A completed scan ends READING with a classified state. -/
theorem completeScan_classified (n : SlotNo) (img : List Byte) (s : State) :
    classified ((completeScan n img s).slots.get n).state = true := by
  rw [completeScan_state]
  exact validate_classified img

theorem ne_reading_of_classified {st : SlotState} (h : classified st = true) : st ≠ .reading := by
  rintro rfl
  exact nomatch h

theorem busAlike_completeScan (n : SlotNo) (img : List Byte) (s : State) : BusAlike s (completeScan n img s) := by
  have hclassified := completeScan_classified n img s
  refine ⟨by simp, by simp, by simp, by simp, fun m hm => ?_, fun m hm => ?_⟩ <;> by_cases hmn : m = n
  · rw [hmn]
    exact occupied_of_classified hclassified
  · rwa [completeScan_state_other img s hmn]
  · rw [hmn] at hm
    exact absurd hm (ne_reading_of_classified hclassified)
  · rwa [completeScan_state_other img s hmn] at hm

/-! ### Resets -/

/-- After a reset nothing waits, nothing is in flight and no slot is in READING. -/
theorem busOk_samplePresence {s : State} (hrun : s.resetAsserted = false) (hslots : s.slots = State.reset.slots)
    (hbus : s.bus = .idle) (hjobs : s.jobs = []) (hflight : s.inFlight = none) : BusOk (samplePresence s) := by
  refine ⟨⟨hrun, fun n hn => ?_, ⟨fun j hj => ?_, ?_⟩, fun f hf => ?_⟩, busInv_of_empty hflight hjobs ?_⟩
  · rw [samplePresence_slots_get, hslots, reset_slots_get] at hn
    split at hn
    next => exact nomatch hn
    next => exact nomatch hn
  · rw [samplePresence_jobs, hjobs] at hj
    exact nomatch hj
  · rw [samplePresence_jobs, hjobs]
    exact List.nodup_nil
  · rw [samplePresence_inFlight, hflight] at hf
    exact nomatch hf
  · rw [samplePresence_bus, hbus]
    exact fun h => nomatch h

theorem busOk_releaseReset {s : State} (h : Inv s) (hreset : s.resetAsserted = true) (rate : Bool) (pres : Eight Bool) :
    BusOk (releaseReset rate pres s) := by
  have hs := h.eq_reset hreset
  exact busOk_samplePresence rfl (by rw [hs]) (by rw [hs]; rfl) (by rw [hs]; rfl) (by rw [hs]; rfl)

theorem busOk_fullReset (s : State) : BusOk (fullReset s) := busOk_samplePresence rfl rfl rfl rfl rfl

/-! ### Lines -/

theorem BusOk.startSettling {s : State} (h : BusOk s) (n : SlotNo) :
    BusOk (startSettling n { s with pres := s.pres.set n false }) := by
  have hlow : BusOk { s with pres := s.pres.set n false } := h.congr (busAlike_of_eq rfl rfl rfl rfl rfl)
  unfold Machine.startSettling
  split
  next hst =>
    refine hlow.congr (busAlike_setSlot (fun hoccupied => ?_) fun hreading => nomatch hreading)
    rw [hst] at hoccupied
    exact nomatch hoccupied
  next => exact hlow

/-- R46: an inserted module is UNREADABLE on a FAULTED bus, and is scanned on every other. -/
theorem BusOk.insertion {s : State} (h : BusOk s) {n : SlotNo} (hst : (s.slots.get n).state = .settling) :
    BusOk (insertion n s) := by
  have hnothing : occupied (s.slots.get n).state = false := by rw [hst]; rfl
  unfold Machine.insertion
  refine BusOk.congr ?_ (busAlike_raise ..)
  split
  next hfaulted =>
    refine h.congr (busAlike_setSlot (fun hoccupied => ?_) fun hreading => ?_)
    · rw [hnothing] at hoccupied
      exact nomatch hoccupied
    · rw [hfaulted] at hreading
      exact nomatch hreading
  next hfaulted =>
    have hread : insertedSlot (s.bus == .faulted) (s.slots.get n) =
        { s.slots.get n with present := true, settle := none, state := .reading } := by
      rw [beq_false_of_ne hfaulted]
      rfl
    rw [hread]
    generalize hr : ({ s.slots.get n with present := true, settle := none, state := .reading } : Slot) = r
    have hreading : r.state = .reading := by rw [← hr]
    have hqueue : QueueInv { s with slots := s.slots.set n r } :=
      h.queue.sublist (List.Sublist.refl _) fun j _ m _ hm => by
        rw [Eight.get_set]
        split
        next => rw [hreading]; rfl
        next => exact hm
    refine BusReady.startNext ⟨⟨by simpa using h.run, fun m hm => ?_, ?_, ?_⟩, ?_⟩
    · rw [enqueueScan_slots] at hm
      by_cases hmn : m = n
      · exact .inl (hmn ▸ enqueueScan_demands n [] _)
      · rw [Eight.get_set_other _ _ hmn] at hm
        rw [enqueueScan_inFlight]
        exact (h.reading m hm).imp_left fun hjob => enqueueScan_keeps_demand n true [] hjob
    · refine hqueue.enqueueScan ?_ (.inl rfl)
      rw [Eight.get_set_same, hreading]
      rfl
    · rw [enqueueScan_inFlight]
      exact h.recovery
    · rw [enqueueScan_frame]
      by_cases hidle : s.bus = .idle
      · exact .inl ⟨hidle, (h.bus.idle hidle).1⟩
      · exact .inr ((h.bus.withJobs _ hidle hfaulted).congr rfl rfl rfl)

/-! ### A removal -/

theorem removalEvent_state_same (n : SlotNo) (s : State) : ((removalEvent n s).slots.get n).state = .empty := by
  rw [removalEvent, slotEvent_state, Eight.get_set_same]
  rfl

theorem removalEvent_state_other {n m : SlotNo} (s : State) (hm : m ≠ n) :
    ((removalEvent n s).slots.get m).state = (s.slots.get m).state := by
  rw [removalEvent, slotEvent_state, Eight.get_set_other _ _ hm]

theorem isForSlot_iff {n : SlotNo} {j : Job} : isForSlot n j = true ↔ slotOfWork j.work = some n := by simp [isForSlot]

/-- Without the removed slot's jobs the queue is right again. -/
theorem BusOk.purged {s : State} (h : BusOk s) (n : SlotNo) :
    BusOk { removalEvent n s with jobs := s.jobs.filter fun j => !isForSlot n j } := by
  have hkept {m : SlotNo} {j : Job} (hm : m ≠ n) (hj : slotOfWork j.work = some m) : (!isForSlot n j) = true := by
    rw [Bool.not_eq_true', Bool.eq_false_iff, ne_eq, isForSlot_iff, hj]
    exact fun hmn => hm (Option.some.inj hmn)
  refine ⟨⟨?_, fun m hm => ?_, ?_, ?_⟩, ?_⟩
  · simpa [removalEvent] using h.run
  · have hmn : m ≠ n := by
      rintro rfl
      rw [removalEvent_state_same] at hm
      exact nomatch hm
    rw [removalEvent_state_other s hmn] at hm
    refine (h.reading m hm).imp (fun hjob => ?_) fun hflight => ?_
    · obtain ⟨j, hj, hscan⟩ := List.any_eq_true.mp hjob
      have hslot : slotOfWork j.work = some m := by rw [(presenceScanOf_iff.mp hscan).1]; rfl
      exact List.any_eq_true.mpr ⟨j, List.mem_filter.mpr ⟨hj, hkept hmn hslot⟩, hscan⟩
    · simpa [removalEvent] using hflight
  · refine h.queue.sublist List.filter_sublist fun j hj m hm hst => ?_
    have hmn : m ≠ n := by
      rintro rfl
      have hother := (List.mem_filter.mp hj).2
      rw [isForSlot_iff.mpr hm] at hother
      exact nomatch hother
    rwa [removalEvent_state_other s hmn]
  · simpa [removalEvent] using h.recovery
  · have hinv : BusInv (removalEvent n s) :=
      h.bus.congr (by simp [removalEvent]) (by simp [removalEvent]) (by simp [removalEvent])
    refine hinv.withFewer fun hjobs => ?_
    have hnone : s.jobs = [] := by simpa [removalEvent] using hjobs
    rw [hnone, List.filter_nil]

/-- A removal leaves the job in flight alone, or abandons a USER WRITE. -/
theorem abandonWrite_cases (n : SlotNo) (s : State) :
    (abandonWrite n s).inFlight = s.inFlight ∨ ∃ f m off data, s.inFlight = some f ∧ f.job.work = .userWrite m off data ∧
      (abandonWrite n s).inFlight =
        some { f with job := { f.job with tags := [] }, activity := .stopCondition } := by
  unfold abandonWrite
  split
  next f hf =>
    split
    next m off data hwork =>
      split
      next => exact .inr ⟨f, m, off, data, hf, hwork, rfl⟩
      next => exact .inl rfl
    all_goals exact .inl rfl
  next => exact .inl rfl

/-- A removal stops nothing, or marks the SCAN or MODULE READ of its slot. -/
theorem stopReading_cases (n : SlotNo) (s : State) :
    stopReading n s = s ∨ ∃ f g, s.inFlight = some f ∧ slotOfWork f.job.work = some n ∧ g.job.work = f.job.work ∧
      g.job.tags = f.job.tags ∧ stopReading n s = markToStop g s := by
  unfold stopReading
  split
  next f hf =>
    split
    next m hwork =>
      split
      next hm => exact .inr ⟨f, { f with job := { f.job with presence := false } }, hf, by rw [hwork, hm]; rfl, rfl, rfl, rfl⟩
      next => exact .inl rfl
    next m off len hwork =>
      split
      next hm => exact .inr ⟨f, f, hf, by rw [hwork, hm]; rfl, rfl, rfl, rfl⟩
      next => exact .inl rfl
    all_goals exact .inl rfl
  next => exact .inl rfl

theorem work_ne_recover_of_slot {w : JobWork} {n : SlotNo} (h : slotOfWork w = some n) : w ≠ .recover := by
  rintro rfl
  exact nomatch h

/-- Before it looks at the job in flight a removal has dropped the slot's waiting jobs and abandoned its write. -/
theorem busAlike_purgeJobs (n : SlotNo) (u : State) :
    BusAlike
      { u with jobs := u.jobs.filter fun j => !isForSlot n j, inFlight := (abandonWrite n u).inFlight }
      (purgeJobs n (abandonWrite n u)) :=
  busAlike_of_eq (by rw [purgeJobs_frame, abandonWrite_frame]) (by rw [purgeJobs_frame, abandonWrite_frame])
    (by rw [purgeJobs_frame, abandonWrite_frame]) (by rw [purgeJobs, abandonWrite_frame]) (by rw [purgeJobs_frame])

theorem BusOk.purgeJobs {s : State} (h : BusOk s) (n : SlotNo) :
    BusOk (purgeJobs n (abandonWrite n (removalEvent n s))) := by
  have hpurged := h.purged n
  have hjobs : (removalEvent n s).jobs = s.jobs := by simp [removalEvent]
  refine BusOk.congr ?_ (busAlike_purgeJobs n (removalEvent n s))
  rw [hjobs]
  rcases abandonWrite_cases n (removalEvent n s) with hsame | ⟨f, m, off, data, hf, hwork, habandoned⟩
  · rw [hsame]
    exact hpurged
  · rw [habandoned]
    exact hpurged.progress (f := f) hf rfl rfl rfl fun hrecover => by rw [hwork] at hrecover; exact nomatch hrecover

/-- R48, R85 to R87: a removal. -/
theorem BusOk.removal {s : State} (h : BusOk s) (n : SlotNo) : BusOk (removal n s) := by
  have hbefore := h.purgeJobs n
  have hempty : ((Machine.purgeJobs n (abandonWrite n (removalEvent n s))).slots.get n).state ≠ .reading := by
    rw [purgeJobs_frame, abandonWrite_frame, removalEvent_state_same]
    exact fun h => nomatch h
  rw [Machine.removal, ← removalEvent]
  rcases stopReading_cases n (Machine.purgeJobs n (abandonWrite n (removalEvent n s))) with
    hsame | ⟨f, g, hf, hslot, hwork, _, hmarked⟩
  · rw [hsame]
    exact hbefore
  · rw [hmarked]
    exact hbefore.markToStop (hbefore.reading.queued_of_slot hf hslot hempty) hf hwork (work_ne_recover_of_slot hslot)

theorem BusOk.presenceHigh {s : State} (h : BusOk s) (n : SlotNo) :
    BusOk (presenceHigh n { s with pres := s.pres.set n true }) := by
  have hhigh : BusOk { s with pres := s.pres.set n true } := h.congr (busAlike_of_eq rfl rfl rfl rfl rfl)
  cases hst : occupied (s.slots.get n).state with
  | true =>
    rw [presenceHigh_of_occupied (by exact hst)]
    exact hhigh.removal n
  | false =>
    rcases occupied_eq_false_iff.mp hst with hempty | hsettling
    · rw [presenceHigh_of_empty (by exact hempty)]
      exact hhigh
    · rw [presenceHigh_of_settling (by exact hsettling)]
      refine hhigh.congr (busAlike_setSlot (fun hoccupied => ?_) fun hreading => nomatch hreading)
      exact absurd (hst.symm.trans hoccupied) (by simp)

/-! ### The job in flight -/

/-- Every slot in READING has its scan in the queue once the job in flight is no scan. -/
theorem BusOk.queued_of_not_scan {s : State} (h : BusOk s) {f : InFlight} (hf : s.inFlight = some f)
    (hwork : ∀ n, f.job.work ≠ .scan n) : QueuedReading s :=
  h.reading.queued fun g hg => by
    obtain rfl := Option.some.inj (hf.symm.trans hg)
    exact .inr fun n => presenceScanOf_of_work_ne (hwork n)

theorem BusOk.queued_of_marked {s : State} (h : BusOk s) {f : InFlight} (hf : s.inFlight = some f)
    (hmark : f.stopMark = true) : QueuedReading s :=
  h.reading.queued fun g hg => by
    obtain rfl := Option.some.inj (hf.symm.trans hg)
    exact .inl hmark

/-- A job's failure takes no module away and leaves all of READING to the queue. -/
theorem BusOk.deliverFailure {s : State} (h : BusOk s) {f g : InFlight} (hf : s.inFlight = some f) (hjob : g.job = f.job)
    (c : UnreadableCause) (st : Status) :
    BusAlike s (deliverFailure g c st s) ∧ QueuedReading (deliverFailure g c st s) := by
  rw [Machine.deliverFailure, hjob]
  split
  next n hwork =>
    have halike := busAlike_failScans [n] c s
    have hread := (h.reading.congr halike).queued_of_slot (n := n) (halike.flight.trans hf) (by rw [hwork]; rfl)
      (by rw [failScans_state]; simp)
    exact ⟨halike.trans (busAlike_endTags ..), hread.congr (busAlike_endTags ..)⟩
  next hwork =>
    have hread := h.queued_of_not_scan hf fun n => by rw [hwork]; exact fun h => nomatch h
    exact ⟨busAlike_endTags .., hread.congr (busAlike_endTags ..)⟩
  next n off _ hwork =>
    have hread := h.queued_of_not_scan hf fun n => by rw [hwork]; exact fun h => nomatch h
    have halike : BusAlike s (if pageLost g then changeCopy n (invalidatePage off) s else s) := by
      split
      next => exact busAlike_changeCopy ..
      next => exact busAlike_of_eq rfl rfl rfl rfl rfl
    have hended := halike.trans (busAlike_endTags st [] f.job.tags _)
    exact ⟨hended, hread.congr hended⟩
  next hwork =>
    exact ⟨busAlike_of_eq rfl rfl rfl rfl rfl, h.queued_of_not_scan hf fun n => by rw [hwork]; exact fun h => nomatch h⟩

theorem BusOk.transactionEnd {s : State} (h : BusOk s) {f g : InFlight} (hf : s.inFlight = some f)
    (hactivity : f.activity = .transaction) (hjob : g.job = f.job) (hmark : g.stopMark = f.stopMark) :
    BusOk (transactionEnd g s) := by
  unfold Machine.transactionEnd
  split
  next hmarked => exact h.endStopped (h.queued_of_marked hf (hmark ▸ hmarked)) g
  next =>
    split
    next =>
      refine h.progress hf (by rw [hjob]) (by rw [hjob]) hmark fun hrecover => ?_
      have hrecovery := h.recovery f hf hrecover
      rw [hactivity] at hrecovery
      exact nomatch hrecovery
    next =>
      obtain ⟨halike, hreading⟩ := h.deliverFailure hf hjob .noResponse .noResponse
      exact busOk_finishJob (halike.run.trans h.run) (h.queue.congr halike) hreading

/-- R73: the job fails and the bus recovers. -/
theorem BusOk.stuckBus {s : State} (h : BusOk s) {f g : InFlight} (hf : s.inFlight = some f) (hjob : g.job = f.job)
    (hmark : g.stopMark = f.stopMark) (pulses : Nat) :
    BusOk { stuckFailure g s with inFlight := none, bus := .recovering, pulses := pulses } := by
  have hfailed : BusAlike s (stuckFailure g s) ∧ QueuedReading (stuckFailure g s) := by
    unfold stuckFailure
    split
    next hmarked =>
      exact ⟨busAlike_endTags .., (h.queued_of_marked hf (hmark ▸ hmarked)).congr (busAlike_endTags ..)⟩
    next => exact h.deliverFailure hf hjob _ _
  obtain ⟨halike, hreading⟩ := hfailed
  refine ⟨⟨halike.run.trans h.run, fun n hn => .inl (hreading n hn), ?_, fun f hf => nomatch hf⟩,
    busInv_recovering rfl rfl⟩
  exact (h.queue.congr halike).sublist (List.Sublist.refl _) fun _ _ _ _ => id

theorem BusOk.segmentEnd {s : State} (h : BusOk s) {f : InFlight} {n : SlotNo} (hf : s.inFlight = some f)
    (hwork : f.job.work = .scan n) (bytes : List Byte) : BusOk (segmentEnd n f bytes s) := by
  unfold Machine.segmentEnd
  dsimp only
  split
  next hmarked => exact h.endStopped (h.queued_of_marked hf hmarked) f
  next =>
    split
    next =>
      generalize (f.bytesRead ++ bytes).take 256 = img
      have halike := busAlike_completeScan n img s
      have hreading := (h.reading.congr halike).queued_of_slot (n := n) (halike.flight.trans hf) (by rw [hwork]; rfl)
        (ne_reading_of_classified (completeScan_classified n img s))
      exact (h.toScansOk.congr halike).finishJob hreading (busAlike_endTags ..)
    next => exact h.progress hf rfl rfl rfl fun hrecover => by rw [hwork] at hrecover; exact nomatch hrecover

/-- A job that is no scan ends after changes the bus does not see. -/
theorem BusOk.finish_of_not_scan {s t : State} (h : BusOk s) {f : InFlight} (hf : s.inFlight = some f)
    (hwork : ∀ n, f.job.work ≠ .scan n) (ha : BusAlike s t) : BusOk (finishJob t) :=
  h.toScansOk.finishJob (h.queued_of_not_scan hf hwork) ha

theorem BusOk.pollEnd {s : State} (h : BusOk s) {f : InFlight} {n : SlotNo} {off : Nat} {data : List Byte}
    (hf : s.inFlight = some f) (hwork : f.job.work = .userWrite n off data) (acked : Bool) :
    BusOk (pollEnd f n off acked s) := by
  have hother : f.job.work ≠ .recover := by rw [hwork]; exact fun h => nomatch h
  unfold Machine.pollEnd
  split_ifs
  · exact h.progress hf rfl rfl rfl fun hrecover => absurd hrecover hother
  · exact h.progress hf rfl rfl rfl fun hrecover => absurd hrecover hother
  · exact h.finish_of_not_scan hf (fun m => by rw [hwork]; exact fun h => nomatch h)
      ((busAlike_changeCopy ..).trans (busAlike_endTags ..))

theorem BusOk.readBackEnd {s : State} (h : BusOk s) {f : InFlight} {n : SlotNo} {off : Nat} {data : List Byte}
    (hf : s.inFlight = some f) (hwork : f.job.work = .userWrite n off data) (page : List Byte) :
    BusOk (readBackEnd f n off data page s) := by
  have hother (m : SlotNo) : f.job.work ≠ .scan m := by rw [hwork]; exact fun h => nomatch h
  unfold Machine.readBackEnd
  split
  next => exact h.finish_of_not_scan hf hother ((busAlike_changeCopy ..).trans (busAlike_endTags ..))
  next => exact h.finish_of_not_scan hf hother ((busAlike_changeCopy ..).trans (busAlike_endTags ..))

/-! ### Recoveries -/

/-- R82: on a FAULTED bus nothing waits, and the slots whose scans waited are UNREADABLE. -/
theorem busOk_enterFaulted {s : State} (hrun : s.resetAsserted = false) (hreading : QueuedReading s) (announce : Bool) :
    BusOk (enterFaulted announce s) := by
  have hfailed : BusOk (failScans (presenceScanSlots s.jobs) .bus
      (endTags .busFault [] (s.jobs.flatMap Job.tags) { s with bus := .faulted, inFlight := none, jobs := [] })) := by
    refine ⟨⟨by simpa using hrun, fun n hn => ?_, ⟨fun j hj => ?_, by simp⟩, fun f hf => ?_⟩,
      busInv_of_empty (by simp) (by simp) (by simp)⟩
    · rw [failScans_state] at hn
      split at hn
      next => exact nomatch hn
      next hmem =>
        refine absurd ?_ hmem
        have hst : (s.slots.get n).state = .reading := by simpa using hn
        obtain ⟨j, hj, hscan⟩ := List.any_eq_true.mp (hreading n hst)
        exact mem_presenceScanSlots.mpr ⟨j, hj, presenceScanOf_iff.mp hscan⟩
    · simp at hj
    · simp at hf
  unfold enterFaulted
  dsimp only
  split
  next => exact hfailed.congr (busAlike_raise ..)
  next => exact hfailed

theorem QueueInv.demandScans {ns : List SlotNo} {s : State} (h : QueueInv s)
    (hst : ∀ n ∈ ns, occupied (s.slots.get n).state = true) : QueueInv (demandScans ns s) := by
  induction ns generalizing s with
  | nil => exact h
  | cons n ns ih =>
    refine ih (h.enqueueScan (hst n List.mem_cons_self) (.inl rfl)) fun m hm => ?_
    rw [enqueueScan_slots]
    exact hst m (List.mem_cons_of_mem n hm)

/-- R56, R84: the rescans of a recovered bus. -/
theorem busReady_recoveryRescans {s : State} (h : ScansOk s) (hreading : QueuedReading s) (hbus : s.bus = .idle)
    (hflight : s.inFlight = none) : BusReady (recoveryRescans s) := by
  have hstate (n : SlotNo) : ((rereadSlots s.slots).get n).state =
      if lostToBus (s.slots.get n) then .reading else (s.slots.get n).state := by
    rw [rereadSlots, Eight.get_ofFn]
    split <;> rfl
  have hqueue : QueueInv { s with slots := rereadSlots s.slots } :=
    h.queue.sublist (List.Sublist.refl _) fun j _ n _ hn => by
      rw [hstate]
      split
      next => rfl
      next => exact hn
  have hslots := recoveryRescans_slots s
  rw [recoveryRescans_eq, demandScans_frame] at hslots ⊢
  refine ⟨⟨h.run, fun n hn => .inl ?_, ?_, fun f hf => ?_⟩, .inl ⟨hbus, hflight⟩⟩
  · cases hlost : lostToBus (s.slots.get n) with
    | true => exact demandScans_demands (List.mem_filter.mpr ⟨mem_allSlots n, hlost⟩) _
    | false =>
      rw [hstate, hlost] at hn
      exact demandScans_keeps_demand _ (hreading n hn)
  · have hdemanded := hqueue.demandScans (ns := allSlots.filter fun n => lostToBus (s.slots.get n)) fun n hn => by
      rw [hstate, if_pos (List.mem_filter.mp hn).2]
      rfl
    rwa [demandScans_frame] at hdemanded
  · rw [hflight] at hf
    exact nomatch hf

/-- R80 to R84: the end of a recovery. -/
theorem BusOk.recoveryOutcome {s : State} (h : BusOk s) (hbus : s.bus = .recovering) (free : Bool) :
    BusOk (recoveryOutcome free s) := by
  unfold Machine.recoveryOutcome
  split
  next f hf =>
    have hwork : f.job.work = .recover := by
      have hflight := h.bus.flight hf
      rw [hbus] at hflight
      by_contra hother
      rw [if_neg hother] at hflight
      exact nomatch hflight
    have hnoscan (n : SlotNo) : f.job.work ≠ .scan n := by rw [hwork]; exact fun h => nomatch h
    have hreading := h.queued_of_not_scan hf hnoscan
    have hended (st : Status) (payload : List Byte) := busAlike_endTags st payload f.job.tags s
    unfold recoverEnd
    split
    · exact h.finish_of_not_scan hf hnoscan (busAlike_endTags ..)
    · exact busOk_enterFaulted ((hended _ _).run.trans h.run) (hreading.congr (hended _ _)) _
    · refine (busReady_recoveryRescans ⟨by simpa using h.run, fun n hn => .inl ?_, ?_, ?_⟩ (fun n hn => ?_) (by simp)
        (by simp)).startNext
      · simpa using hreading n (by simpa using hn)
      · exact h.queue.sublist (by simp) fun _ _ n _ hn => by simpa using hn
      · simp
      · simpa using hreading n (by simpa using hn)
    · exact busOk_enterFaulted ((hended _ _).run.trans h.run) (hreading.congr (hended _ _)) _
  next hf =>
    have hreading : QueuedReading s := h.reading.queued fun f hf' => by rw [hf] at hf'; exact nomatch hf'
    split
    next =>
      refine BusReady.startNext ⟨⟨h.run, fun n hn => .inl (hreading n hn), ?_, fun f hf' => ?_⟩, .inl ⟨rfl, hf⟩⟩
      · exact h.queue.sublist (List.Sublist.refl _) fun _ _ _ _ => id
      · exact nomatch hf.symm.trans hf'
    next => exact busOk_enterFaulted h.run hreading _

end Sys2Proof.Machine
end

section
/-! Host tags on waiting jobs (R67, R68): no event of a line or of the bus brings one. -/

namespace Sys2Proof.Machine

/-- The host tags on waiting jobs. -/
def waitingTags (s : State) : List Byte := s.jobs.flatMap Job.tags

theorem busTags_eq_waitingTags {s : State} (hf : s.inFlight = none) : busTags s = waitingTags s := by
  simp [busTags, waitingTags, hf]

theorem busTags_eq_append {s : State} {f : InFlight} (hf : s.inFlight = some f) :
    busTags s = waitingTags s ++ f.job.tags := by simp [busTags, waitingTags, hf]

theorem waitingTags_sublist_busTags (s : State) : (waitingTags s).Sublist (busTags s) := List.sublist_append_left _ _

/-- A queue without some of its jobs has no further tag. -/
theorem waitingTags_sublist {s t : State} (h : t.jobs.Sublist s.jobs) : (waitingTags t).Sublist (waitingTags s) :=
  h.flatMap Job.tags

/-! ### Queues that only get shorter -/

theorem startNext_jobs_sublist (s : State) : (startNext s).jobs.Sublist s.jobs := by
  unfold startNext
  split
  next j rest _ hjobs =>
    rw [hjobs]
    exact List.sublist_cons_self j rest
  next => exact List.Sublist.refl _

theorem finishJob_jobs_sublist (s : State) : (finishJob s).jobs.Sublist s.jobs := startNext_jobs_sublist _

theorem endStopped_jobs_sublist (f : InFlight) (s : State) : (endStopped f s).jobs.Sublist s.jobs := by
  simpa [endStopped] using finishJob_jobs_sublist (endTags .removed [] f.job.tags s)

theorem markToStop_jobs_sublist (f : InFlight) (s : State) : (markToStop f s).jobs.Sublist s.jobs := by
  unfold markToStop
  split
  next => exact endStopped_jobs_sublist f s
  next => exact List.Sublist.refl _

theorem deliverFailure_jobs (f : InFlight) (c : UnreadableCause) (st : Status) (s : State) :
    (deliverFailure f c st s).jobs = s.jobs := by
  unfold deliverFailure
  split
  · simp
  · simp
  · split <;> simp
  · rfl

theorem transactionEnd_jobs_sublist (f : InFlight) (s : State) : (transactionEnd f s).jobs.Sublist s.jobs := by
  unfold transactionEnd
  split_ifs
  · exact endStopped_jobs_sublist f s
  · exact List.Sublist.refl _
  · rw [← deliverFailure_jobs f .noResponse .noResponse s]
    exact finishJob_jobs_sublist _

theorem stuckFailure_jobs (f : InFlight) (s : State) : (stuckFailure f s).jobs = s.jobs := by
  unfold stuckFailure
  split
  next => simp
  next => exact deliverFailure_jobs ..

theorem segmentEnd_jobs_sublist (n : SlotNo) (f : InFlight) (bytes : List Byte) (s : State) :
    (segmentEnd n f bytes s).jobs.Sublist s.jobs := by
  unfold segmentEnd
  dsimp only
  split_ifs
  · exact endStopped_jobs_sublist f s
  · simpa [scanCompletion] using finishJob_jobs_sublist (endTags .ok
      (rescanPayload ((completeScan n ((f.bytesRead ++ bytes).take 256) s).slots.get n)) f.job.tags
      (completeScan n ((f.bytesRead ++ bytes).take 256) s))
  · exact List.Sublist.refl _

theorem pollEnd_jobs_sublist (f : InFlight) (n : SlotNo) (off : Nat) (acked : Bool) (s : State) :
    (pollEnd f n off acked s).jobs.Sublist s.jobs := by
  unfold pollEnd
  split_ifs
  · exact List.Sublist.refl _
  · exact List.Sublist.refl _
  · simpa [writeTimeout] using
      finishJob_jobs_sublist (endTags .writeTimeout [] f.job.tags (changeCopy n (invalidatePage off) s))

theorem readBackEnd_jobs_sublist (f : InFlight) (n : SlotNo) (off : Nat) (data page : List Byte) (s : State) :
    (readBackEnd f n off data page s).jobs.Sublist s.jobs := by
  unfold readBackEnd
  split
  · simpa using finishJob_jobs_sublist (endTags .ok [] f.job.tags (changeCopy n (writePage off data) s))
  · simpa using finishJob_jobs_sublist (endTags .mismatch page f.job.tags (changeCopy n (writePage (pageStart off) page) s))

theorem removal_jobs_sublist (n : SlotNo) (s : State) : (removal n s).jobs.Sublist s.jobs := by
  have hjobs : (removalEvent n s).jobs = s.jobs := by simp [removalEvent]
  have hpurged : (purgeJobs n (abandonWrite n (removalEvent n s))).jobs.Sublist s.jobs := by
    rw [purgeJobs, abandonWrite_frame, hjobs]
    exact List.filter_sublist
  rw [removal, ← removalEvent]
  rcases stopReading_cases n (purgeJobs n (abandonWrite n (removalEvent n s))) with hsame | ⟨f, g, _, _, _, _, hmarked⟩
  · rw [hsame]
    exact hpurged
  · rw [hmarked]
    exact (markToStop_jobs_sublist g _).trans hpurged

theorem presenceHigh_jobs_sublist (n : SlotNo) (s : State) : (presenceHigh n s).jobs.Sublist s.jobs := by
  cases hst : occupied (s.slots.get n).state with
  | true =>
    rw [presenceHigh_of_occupied hst]
    exact removal_jobs_sublist n s
  | false =>
    rcases occupied_eq_false_iff.mp hst with hempty | hsettling
    · rw [presenceHigh_of_empty hempty]
    · rw [presenceHigh_of_settling hsettling]

theorem enterFaulted_jobs (announce : Bool) (s : State) : (enterFaulted announce s).jobs = [] := by
  unfold enterFaulted
  dsimp only
  split <;> simp

/-! ### Demands without a host tag -/

theorem flatMap_tags_joinScan (n : SlotNo) (p : Bool) (ts : List Byte) (js : List Job) :
    ((joinScan n p ts js).flatMap Job.tags).length ≤ (js.flatMap Job.tags).length + ts.length := by
  induction js with
  | nil => simp [joinScan]
  | cons j js ih =>
    rw [joinScan]
    split
    next =>
      simp only [List.flatMap_cons, List.length_append]
      omega
    next =>
      simp only [List.flatMap_cons, List.length_append]
      omega

/-- A demand brings its tags. -/
theorem waitingTags_enqueueScan (n : SlotNo) (p : Bool) (ts : List Byte) (s : State) :
    (waitingTags (enqueueScan n p ts s)).length ≤ (waitingTags s).length + ts.length := by
  unfold waitingTags enqueueScan
  split
  next => exact flatMap_tags_joinScan n p ts s.jobs
  next => simp

theorem waitingTags_demandScans (ns : List SlotNo) (s : State) :
    (waitingTags (demandScans ns s)).length ≤ (waitingTags s).length := by
  induction ns generalizing s with
  | nil => exact Nat.le_refl _
  | cons n ns ih => exact (ih _).trans (waitingTags_enqueueScan n true [] s)

theorem waitingTags_insertion (n : SlotNo) (s : State) :
    (waitingTags (insertion n s)).length ≤ (waitingTags s).length := by
  unfold insertion
  split
  next => simp [waitingTags]
  next =>
    have hdemand := waitingTags_enqueueScan n true []
      { s with slots := s.slots.set n (insertedSlot (s.bus == .faulted) (s.slots.get n)) }
    have hstart := (waitingTags_sublist (startNext_jobs_sublist (enqueueScan n true []
      { s with slots := s.slots.set n (insertedSlot (s.bus == .faulted) (s.slots.get n)) }))).length_le
    have hraise (t : State) : waitingTags (raise (.slotInserted n) t) = waitingTags t := by simp [waitingTags]
    rw [hraise]
    exact hstart.trans hdemand

theorem waitingTags_recoveryOutcome (free : Bool) (s : State) :
    (waitingTags (recoveryOutcome free s)).length ≤ (waitingTags s).length := by
  have hfaulted (announce : Bool) (t : State) : (waitingTags (enterFaulted announce t)).length ≤ (waitingTags s).length := by
    rw [waitingTags, enterFaulted_jobs]
    exact Nat.zero_le _
  unfold recoveryOutcome
  split
  next f _ =>
    unfold recoverEnd
    split
    · refine (waitingTags_sublist (s := s) ?_).length_le
      simpa using finishJob_jobs_sublist (endTags .ok [] f.job.tags s)
    · exact hfaulted _ _
    · refine (waitingTags_sublist (startNext_jobs_sublist _)).length_le.trans ?_
      rw [recoveryRescans_eq]
      refine (waitingTags_demandScans _ _).trans ?_
      simp [waitingTags]
    · exact hfaulted _ _
  next =>
    split
    next => exact (waitingTags_sublist (s := s) (startNext_jobs_sublist { s with bus := .idle })).length_le
    next => exact hfaulted _ _

end Sys2Proof.Machine
end

section
/-! Frames at the bus (R69, R77, R83, R88 to R91): every owner keeps queue, job in flight and the slots in READING in
agreement. -/

namespace Sys2Proof.Machine

/-! ### Owners that the bus does not see -/

theorem busAlike_changeOverrides (n : SlotNo) (os : List Override) (s : State) : BusAlike s (changeOverrides n os s) := by
  have hset : BusAlike s
      { s with slots := s.slots.set n { s.slots.get n with overrides := os, gen := (s.slots.get n).gen + 1 } } :=
    busAlike_setSlot id id
  exact hset.trans (quiet_staleSlots _ _).busAlike

theorem busAlike_refl (s : State) : BusAlike s s := busAlike_of_eq rfl rfl rfl rfl rfl

section Alike
variable (tag : Byte) (payload : List Byte) (s : State)

theorem busAlike_ownSetOverride : BusAlike s (ownSetOverride tag payload s) := by
  unfold ownSetOverride
  split
  next => exact busAlike_answer ..
  next n o _ =>
    split_ifs
    · exact busAlike_answer ..
    · exact busAlike_answer ..
    · exact busAlike_answer ..
    · have haccepted : BusAlike s (acceptOverride n o s) := by
        unfold acceptOverride
        split
        next => exact busAlike_refl s
        next => exact busAlike_changeOverrides ..
      exact haccepted.trans (busAlike_answer ..)

theorem busAlike_ownClearOverrides : BusAlike s (ownClearOverrides tag payload s) := by
  unfold ownClearOverrides
  split
  next => exact busAlike_answer ..
  next n _ =>
    split_ifs
    · exact busAlike_answer ..
    · exact busAlike_answer ..
    · have haccepted : BusAlike s (acceptClear n s) := by
        unfold acceptClear
        split
        next => exact busAlike_refl s
        next => exact busAlike_changeOverrides ..
      exact haccepted.trans (busAlike_answer ..)

theorem busAlike_ownResolve : BusAlike s (ownResolve tag payload s) := by
  unfold ownResolve
  split
  next => exact busAlike_answer ..
  next =>
    split
    next =>
      exact busAlike_of_eq (by simp [takeResolve]) (by simp [takeResolve]) (by simp [takeResolve]) (by simp [takeResolve])
        (by simp [takeResolve])
    next => exact busAlike_answer ..

theorem busAlike_dropEntry (e : Entry) : BusAlike s (dropEntry e s) :=
  busAlike_of_eq (by simp) (by simp) (by simp) (by simp) (by simp)

theorem busAlike_ownDrop : BusAlike s (ownDrop tag payload s) := by
  unfold ownDrop withEntry
  split
  next => exact busAlike_answer ..
  next =>
    split
    next => exact busAlike_answer ..
    next =>
      unfold dropNamed
      split
      next => exact busAlike_answer ..
      next => exact (busAlike_dropEntry ..).trans (busAlike_answer ..)

end Alike

/-! ### Requests that make jobs -/

/-- A RECOVER, or a job with arguments in range for a slot with a module, each with one tag. -/
theorem BusOk.takeJob {s : State} (h : BusOk s) (hfaulted : s.bus ≠ .faulted) (tag kind : Byte) {w : JobWork}
    (hwork : workOk w = true) (hscan : ∀ n, w ≠ .scan n)
    (hst : ∀ n, slotOfWork w = some n → occupied (s.slots.get n).state = true) : BusOk (takeJob tag kind w s) := by
  have hjoined : BusOk (joinInbox tag kind .busJob s) := h.congr (busAlike_of_eq rfl rfl rfl rfl rfl)
  have hnoscan : isScan { work := w, presence := false, tags := [tag] } = false :=
    Bool.eq_false_iff.mpr fun hs => (isScan_iff.mp hs).elim hscan
  have hjob : WaitingOk (joinInbox tag kind .busJob s) { work := w, presence := false, tags := [tag] } :=
    ⟨hwork, rfl, (fun hpresence => nomatch hpresence), fun _ => rfl, hst⟩
  refine (hjoined.ready hfaulted (hjoined.queue.append hjob hnoscan) fun n hn => ?_).startNext
  rw [List.any_append, hn]
  rfl

/-- A range that is accepted is one of 1 to 64 bytes of the module. -/
theorem workOk_of_rangeArg {p : List Byte} {n : SlotNo} {off len : Nat} (h : rangeArg p = some (n, off, len)) :
    workOk (.moduleRead n off len) = true := by
  unfold rangeArg at h
  split at h
  next sl o l =>
    split at h
    next m hm =>
      split at h
      next hrange =>
        cases h
        simpa [workOk, and_assoc] using hrange
      next => exact nomatch h
    next => exact nomatch h
  next => exact nomatch h

/-- Data that is accepted is 1 to 16 bytes. -/
theorem length_of_writeArg {p : List Byte} {n : SlotNo} {off : Nat} {data : List Byte}
    (h : writeArg p = some (n, off, data)) : 1 ≤ data.length ∧ data.length ≤ 16 := by
  unfold writeArg at h
  split at h
  next sl o cnt ds =>
    split at h
    next m hm =>
      split at h
      next hrange =>
        cases h
        omega
      next => exact nomatch h
    next => exact nomatch h
  next => exact nomatch h

theorem BusOk.ownReadModule {s : State} (h : BusOk s) (tag : Byte) (payload : List Byte) :
    BusOk (ownReadModule tag payload s) := by
  unfold Machine.ownReadModule
  split
  next => exact h.congr (busAlike_answer ..)
  next n off len harg =>
    split_ifs with hst hfaulted
    · exact h.congr (busAlike_answer ..)
    · exact h.congr (busAlike_answer ..)
    · refine h.takeJob hfaulted _ _ (workOk_of_rangeArg harg) (fun m => fun h => nomatch h) fun m hm => ?_
      obtain rfl : n = m := Option.some.inj hm
      simpa using hst

theorem BusOk.ownWriteUser {s : State} (h : BusOk s) (tag : Byte) (payload : List Byte) :
    BusOk (ownWriteUser tag payload s) := by
  unfold Machine.ownWriteUser
  split
  next => exact h.congr (busAlike_answer ..)
  next n off data harg =>
    split_ifs with hoff hfits hst hfaulted
    · exact h.congr (busAlike_answer ..)
    · exact h.congr (busAlike_answer ..)
    · exact h.congr (busAlike_answer ..)
    · exact h.congr (busAlike_answer ..)
    · obtain ⟨hlow, hhigh⟩ := length_of_writeArg harg
      have hwork : workOk (.userWrite n off data) = true := by
        simp only [workOk, Bool.and_eq_true, decide_eq_true_eq]
        exact ⟨⟨⟨not_lt.mp hoff, hlow⟩, hhigh⟩, by simpa using hfits⟩
      refine h.takeJob hfaulted _ _ hwork (fun m => fun h => nomatch h) fun m hm => ?_
      obtain rfl : n = m := Option.some.inj hm
      exact occupied_of_classified (by simpa using hst)

theorem BusOk.ownRescan {s : State} (h : BusOk s) (tag : Byte) (payload : List Byte) :
    BusOk (ownRescan tag payload s) := by
  unfold Machine.ownRescan
  split
  next => exact h.congr (busAlike_answer ..)
  next n force _ =>
    split_ifs with hst hset hfaulted
    · exact h.congr (busAlike_answer ..)
    · exact h.congr (busAlike_answer ..)
    · exact h.congr (busAlike_answer ..)
    · have hjoined : BusOk (joinInbox tag kindRescan .busJob s) := h.congr (busAlike_of_eq rfl rfl rfl rfl rfl)
      have hqueue := hjoined.queue.enqueueScan (n := n) (p := false) (ts := [tag]) (by simpa using hst) (.inr (by simp))
      rw [demandScan]
      rw [enqueueScan_frame] at hqueue ⊢
      exact (hjoined.ready hfaulted hqueue fun m hm => enqueueScan_keeps_demand n false [tag] hm).startNext

/-- R84: on a FAULTED bus nothing waits and no slot is in READING, so a RECOVER starts at once. -/
theorem BusOk.ownBusReset {s : State} (h : BusOk s) (tag : Byte) (payload : List Byte) :
    BusOk (ownBusReset tag payload s) := by
  unfold Machine.ownBusReset
  split
  next hfaulted =>
    obtain ⟨hflight, hjobs⟩ := h.bus.faulted hfaulted
    refine ⟨⟨h.run, fun n hn => ?_, ?_, fun f hf _ => ?_⟩, busInv_flight rfl rfl⟩
    · rcases h.reading n hn with hjob | ⟨f, hf, _⟩
      · rw [hjobs] at hjob
        exact nomatch hjob
      · exact nomatch hflight.symm.trans hf
    · exact h.queue.sublist (List.Sublist.refl _) fun _ _ _ _ => id
    · obtain rfl := Option.some.inj hf
      rfl
  next hfaulted =>
    exact h.takeJob hfaulted _ _ rfl (fun m => fun h => nomatch h) fun m hm => nomatch hm

/-! ### CANCEL -/

/-- A job keeps its work and presence claim when a tag leaves it; those left with a claim stay in the queue. -/
theorem mem_dropClaim {t : Byte} {js : List Job} {j : Job} :
    j ∈ dropClaim t js ↔ ∃ k ∈ js, j = { k with tags := k.tags.erase t } ∧ claimless j = false := by
  simp only [dropClaim, List.mem_filter, List.mem_map, Bool.not_eq_true']
  constructor
  · rintro ⟨⟨k, hk, rfl⟩, hclaim⟩
    exact ⟨k, hk, rfl, hclaim⟩
  · rintro ⟨k, hk, rfl, hclaim⟩
    exact ⟨⟨k, hk, rfl⟩, hclaim⟩

theorem filterMap_scanSlot_dropClaim (t : Byte) (js : List Job) :
    ((dropClaim t js).filterMap scanSlot).Sublist (js.filterMap scanSlot) := by
  have hmap : (js.map fun j => { j with tags := j.tags.erase t }).filterMap scanSlot = js.filterMap scanSlot := by
    rw [List.filterMap_map]
    rfl
  rw [← hmap]
  exact List.filter_sublist.filterMap scanSlot

/-- R88: one tag leaves the waiting jobs. -/
theorem QueueInv.dropClaim {s : State} (h : QueueInv s) (t : Byte) : QueueInv { s with jobs := dropClaim t s.jobs } := by
  refine ⟨fun j hj => ?_, h.2.sublist (filterMap_scanSlot_dropClaim t s.jobs)⟩
  obtain ⟨k, hk, rfl, hclaim⟩ := mem_dropClaim.mp hj
  obtain ⟨hwork, _, hpresence, htags, hslot⟩ := h.1 k hk
  refine ⟨hwork, hclaim, hpresence, fun hscan => ?_, hslot⟩
  have hone : k.tags.length = 1 := htags hscan
  have hnone : k.presence = false := Bool.eq_false_iff.mpr fun hp => Bool.eq_false_iff.mp hscan (hpresence hp)
  have hleft : k.tags.erase t ≠ [] := by simpa [claimless, hnone] using hclaim
  have hlength : (k.tags.erase t).length ≤ 1 := hone ▸ List.length_erase_le
  exact Nat.le_antisymm hlength (List.length_pos_iff.mpr hleft)

theorem dropClaim_keeps_demand {n : SlotNo} (t : Byte) {js : List Job} (h : js.any (presenceScanOf n) = true) :
    (dropClaim t js).any (presenceScanOf n) = true := by
  obtain ⟨j, hj, hscan⟩ := List.any_eq_true.mp h
  have hpresence := (presenceScanOf_iff.mp hscan).2
  exact List.any_eq_true.mpr ⟨_, mem_dropClaim.mpr ⟨j, hj, rfl, by simp [claimless, hpresence]⟩, hscan⟩

theorem BusOk.dropClaim {s : State} (h : BusOk s) (t : Byte) : BusOk { s with jobs := dropClaim t s.jobs } :=
  ⟨⟨h.run, fun n hn => (h.reading n hn).imp_left (dropClaim_keeps_demand t), h.queue.dropClaim t, h.recovery⟩,
    h.bus.withFewer fun hjobs => by rw [hjobs]; rfl⟩

theorem busAlike_cancelledThenOk (tag t : Byte) (s : State) : BusAlike s (cancelledThenOk tag t s) :=
  (busAlike_endRequest ..).trans (busAlike_answer ..)

/-- R89: a tag leaves the SCAN or MODULE READ in flight. -/
theorem BusOk.dropFlightClaim {s : State} (h : BusOk s) {f : InFlight} (hf : s.inFlight = some f) (t : Byte)
    (hother : f.job.work ≠ .recover) : BusOk (dropFlightClaim t f s) := by
  unfold Machine.dropFlightClaim
  dsimp only
  split
  next hclaim =>
    have hnone : f.job.presence = false := by
      simp only [claimless, Bool.and_eq_true, Bool.not_eq_true'] at hclaim
      exact hclaim.2
    refine h.markToStop (h.reading.queued fun g hg => ?_) hf rfl hother
    obtain rfl := Option.some.inj (hf.symm.trans hg)
    exact .inr (presenceScanOf_of_not_presence hnone)
  next => exact h.progress hf rfl rfl rfl fun hrecover => absurd hrecover hother

theorem BusOk.cancelJob {s : State} (h : BusOk s) (tag t : Byte) : BusOk (cancelJob tag t s) := by
  unfold Machine.cancelJob
  split
  next => exact (h.dropClaim t).congr (busAlike_cancelledThenOk ..)
  next =>
    split
    next f hf =>
      split
      next =>
        have hended := h.congr (busAlike_cancelledThenOk tag t s)
        have hf' : (cancelledThenOk tag t s).inFlight = some f := (busAlike_cancelledThenOk tag t s).flight.trans hf
        unfold cancelInFlight
        split
        next hwork => exact hended.dropFlightClaim hf' t (by rw [hwork]; exact fun h => nomatch h)
        next hwork => exact hended.dropFlightClaim hf' t (by rw [hwork]; exact fun h => nomatch h)
        next => exact h.congr (busAlike_answer ..)
        next => exact h.congr (busAlike_answer ..)
      next => exact h.congr (busAlike_answer ..)
    next => exact h.congr (busAlike_answer ..)

theorem BusOk.ownCancel {s : State} (h : BusOk s) (tag : Byte) (payload : List Byte) :
    BusOk (ownCancel tag payload s) := by
  unfold Machine.ownCancel
  split
  next => exact h.congr (busAlike_answer ..)
  next t _ =>
    split
    next => exact h.congr (busAlike_answer ..)
    next =>
      split
      next => exact h.cancelJob tag t
      next =>
        unfold cancelResolve
        split
        next => exact h.congr ((busAlike_dropEntry ..).trans (busAlike_answer ..))
        next => exact h.congr (busAlike_answer ..)

/-! ### RESET -/

/-- The queue a session reset leaves: presence scans without host tags (R90). -/
def sessionJobs (js : List Job) : List Job := (js.filter Job.presence).map withoutTags

theorem BusOk.sessionJobs {s : State} (h : BusOk s) : BusOk { s with jobs := sessionJobs s.jobs } := by
  refine ⟨⟨h.run, fun n hn => (h.reading n hn).imp_left fun hjob => ?_, ⟨fun j hj => ?_, ?_⟩, h.recovery⟩,
    h.bus.withFewer fun hjobs => by rw [hjobs]; rfl⟩
  · obtain ⟨j, hj, hscan⟩ := List.any_eq_true.mp hjob
    have hpresence := (presenceScanOf_iff.mp hscan).2
    exact List.any_eq_true.mpr ⟨_, List.mem_map_of_mem (List.mem_filter.mpr ⟨hj, hpresence⟩), hscan⟩
  · obtain ⟨k, hk, rfl⟩ := List.mem_map.mp hj
    obtain ⟨hk, hpresence⟩ := List.mem_filter.mp hk
    obtain ⟨hwork, _, hscan, _, hslot⟩ := h.queue.1 k hk
    refine ⟨hwork, by simp [claimless, withoutTags, hpresence], hscan, fun hnoscan => ?_, hslot⟩
    exact absurd (hscan hpresence) (Bool.eq_false_iff.mp hnoscan)
  · have hmap (js : List Job) : (js.map withoutTags).filterMap scanSlot = js.filterMap scanSlot := by
      rw [List.filterMap_map]
      rfl
    rw [Machine.sessionJobs, hmap]
    exact h.queue.2.sublist (List.filter_sublist.filterMap scanSlot)

/-- R90, R91: a session reset at the bus. -/
theorem BusOk.sessionBus {s : State} (h : BusOk s) : BusOk (sessionBus s) := by
  have hwaiting := h.sessionJobs
  have hmarked {f : InFlight} (hf : s.inFlight = some f) (hpresence : f.job.presence = false)
      (hother : f.job.work ≠ .recover) :
      BusOk (Machine.markToStop { f with job := withoutTags f.job } { s with jobs := Machine.sessionJobs s.jobs }) := by
    refine hwaiting.markToStop (hwaiting.reading.queued fun g hg => ?_) hf rfl hother
    obtain rfl := Option.some.inj (hf.symm.trans hg)
    exact .inr (presenceScanOf_of_not_presence hpresence)
  have hgoes {f : InFlight} (hf : s.inFlight = some f) :
      BusOk { s with jobs := Machine.sessionJobs s.jobs, inFlight := some { f with job := withoutTags f.job } } :=
    hwaiting.progress hf rfl rfl rfl (h.recovery f hf)
  unfold Machine.sessionBus
  dsimp only
  split
  next => exact hwaiting
  next f hf =>
    split
    next hwork =>
      split
      next => exact hgoes hf
      next hpresence => exact hmarked hf (Bool.eq_false_iff.mpr hpresence) (by rw [hwork]; exact fun h => nomatch h)
    next hwork =>
      refine hwaiting.markToStop (hwaiting.queued_of_not_scan hf fun n => ?_) hf rfl ?_
      · rw [hwork]; exact fun h => nomatch h
      · rw [hwork]; exact fun h => nomatch h
    next => exact hgoes hf
    next => exact hgoes hf

theorem busAlike_sessionSlots (s : State) : BusAlike s (sessionSlots s) := by
  have hstate (n : SlotNo) : ((sessionSlots s).slots.get n).state = (s.slots.get n).state := by
    rw [sessionSlots, Eight.get_ofFn]
    dsimp only
    split <;> rfl
  exact ⟨rfl, rfl, rfl, rfl, fun n hn => by rwa [hstate], fun n hn => by rwa [hstate] at hn⟩

theorem BusOk.ownReset {s : State} (h : BusOk s) (tag : Byte) (payload : List Byte) :
    BusOk (ownReset tag payload s) := by
  have haborted : BusAlike s (answer tag kindReset .ok [] (abortAll s)) := busAlike_of_eq rfl rfl rfl rfl rfl
  have hsession := (h.congr haborted).sessionBus
  unfold Machine.ownReset
  split
  next => exact h.congr (busAlike_answer ..)
  next =>
    have hprofiles : BusAlike (Machine.sessionBus (answer tag kindReset .ok [] (abortAll s)))
        (sessionProfiles (Machine.sessionBus (answer tag kindReset .ok [] (abortAll s)))) :=
      busAlike_of_eq rfl rfl rfl rfl rfl
    exact ((hsession.congr hprofiles).congr (busAlike_sessionSlots _)).congr (busAlike_of_eq rfl rfl rfl rfl rfl)
  next => exact hsession.congr (busAlike_of_eq rfl rfl rfl rfl rfl)

/-- Every owner keeps the bus right. -/
theorem BusOk.ownerOf {s : State} (h : BusOk s) (tag kind : Byte) (payload : List Byte) :
    BusOk (ownerOf tag kind payload s) :=
  ownerOf_elim tag kind payload s (fun _ hquiet => h.congr hquiet.busAlike) (fun _ => h.ownReadModule ..)
    (fun _ => h.ownWriteUser ..) (fun _ => h.ownRescan ..) (h.congr (busAlike_ownSetOverride ..))
    (h.congr (busAlike_ownClearOverrides ..)) (fun _ => h.congr (busAlike_ownResolve ..))
    (h.congr (busAlike_ownDrop ..)) (h.ownCancel ..) (fun _ => h.ownBusReset ..) (h.ownReset ..)

end Sys2Proof.Machine
end

section
/-! Requests and claims over a run of frames (R68, R159): what bounds the host tags on bus jobs by the requests outstanding. -/

namespace Sys2Proof.Machine

/-- Handles and request tags of the entries. -/
def entryClaims (s : State) : List (Byte × Option Byte) := s.entries.map entryClaim

/-- At most four requests outstanding, with distinct tags; no more host tags on bus jobs than requests with such a claim;
the tag of every waiting entry outstanding with a profile claim, and on entries of one handle alone. -/
structure ClaimsFit (s : State) : Prop where
  room : s.inbox.length ≤ 4
  distinct : (s.inbox.map Outstanding.tag).Nodup
  bus : (busTags s).length ≤ (claimTags .busJob s).length
  held : ∀ h g, (h, some g) ∈ entryClaims s → g ∈ claimTags .profile s
  single : ∀ h h' g, (h, some g) ∈ entryClaims s → (h', some g) ∈ entryClaims s → h = h'

theorem mem_claimTags {c : Claim} {s : State} {g : Byte} :
    g ∈ claimTags c s ↔ ∃ o ∈ s.inbox, o.claim = c ∧ o.tag = g := by
  simp only [claimTags, List.mem_map, List.mem_filter, beq_iff_eq, and_assoc]

theorem mem_entryClaims {s : State} {h : Byte} {g : Option Byte} :
    (h, g) ∈ entryClaims s ↔ ∃ e ∈ s.entries, e.handle = h ∧ requestTag e = g := by
  simp only [entryClaims, entryClaim, List.mem_map, Prod.mk.injEq]

theorem claimTags_length_le (c : Claim) (s : State) : (claimTags c s).length ≤ s.inbox.length := by
  rw [claimTags, List.length_map]
  exact List.length_filter_le _ _

/-- Where no two elements of a list share a value, the value tells the element. -/
theorem eq_of_nodup_filterMap {α β : Type} {f : α → Option β} {l : List α} (h : (l.filterMap f).Nodup) {a b : α}
    {v : β} (ha : a ∈ l) (hb : b ∈ l) (hfa : f a = some v) (hfb : f b = some v) : a = b := by
  induction l with
  | nil => exact nomatch ha
  | cons x xs ih =>
    have hvalue {y : α} (hy : y ∈ xs) (hfy : f y = some v) : v ∈ xs.filterMap f := List.mem_filterMap.mpr ⟨y, hy, hfy⟩
    rcases List.mem_cons.mp ha with hax | ha <;> rcases List.mem_cons.mp hb with hbx | hb
    · rw [hax, hbx]
    · rw [← hax, List.filterMap_cons_some hfa] at h
      exact absurd (hvalue hb hfb) (List.nodup_cons.mp h).1
    · rw [← hbx, List.filterMap_cons_some hfb] at h
      exact absurd (hvalue ha hfa) (List.nodup_cons.mp h).1
    · exact ih (h.sublist ((List.sublist_cons_self x xs).filterMap f)) ha hb

theorem Inv.claimsFit {s : State} (h : Inv s) : ClaimsFit s := by
  obtain ⟨hroom, _, hdistinct, _, _⟩ := h.link
  obtain ⟨hbus, hprofile⟩ := h.claims
  have hnodup : (profileTags s).Nodup :=
    hprofile.nodup_iff.mpr (hdistinct.sublist (List.filter_sublist.map Outstanding.tag))
  refine ⟨hroom, hdistinct, hbus.length_eq.le, fun h g hg => ?_, fun h h' g hg hg' => ?_⟩
  · obtain ⟨e, he, _, htag⟩ := mem_entryClaims.mp hg
    exact hprofile.subset (List.mem_filterMap.mpr ⟨e, he, htag⟩)
  · obtain ⟨e, he, rfl, htag⟩ := mem_entryClaims.mp hg
    obtain ⟨e', he', rfl, htag'⟩ := mem_entryClaims.mp hg'
    rw [eq_of_nodup_filterMap hnodup he he' htag htag']

/-- No more than four host tags wait. -/
theorem ClaimsFit.waitingTags_le {s : State} (h : ClaimsFit s) : (waitingTags s).length ≤ 4 :=
  (waitingTags_sublist_busTags s).length_le.trans (h.bus.trans ((claimTags_length_le _ s).trans h.room))

/-! ### Changes without a new claim -/

/-- The same requests outstanding, no further host tag on a bus job, no further claim of an entry. -/
structure ClaimAlike (s t : State) : Prop where
  inbox : t.inbox = s.inbox
  bus : (busTags t).length ≤ (busTags s).length
  entries : entryClaims t ⊆ entryClaims s

theorem ClaimAlike.trans {s t u : State} (h : ClaimAlike s t) (h' : ClaimAlike t u) : ClaimAlike s u :=
  ⟨h'.inbox.trans h.inbox, h'.bus.trans h.bus, List.Subset.trans h'.entries h.entries⟩

theorem claimTags_congr (c : Claim) {s t : State} (h : t.inbox = s.inbox) : claimTags c t = claimTags c s := by
  rw [claimTags, claimTags, h]

theorem ClaimsFit.congr {s t : State} (h : ClaimsFit s) (ha : ClaimAlike s t) : ClaimsFit t := by
  refine ⟨ha.inbox ▸ h.room, ha.inbox ▸ h.distinct, ?_, fun k g hg => ?_, fun k k' g hg hg' => ?_⟩
  · rw [claimTags_congr _ ha.inbox]
    exact ha.bus.trans h.bus
  · rw [claimTags_congr _ ha.inbox]
    exact h.held k g (ha.entries hg)
  · exact h.single k k' g (ha.entries hg) (ha.entries hg')

theorem busTags_congr {s t : State} (hjobs : t.jobs = s.jobs) (hflight : t.inFlight = s.inFlight) :
    busTags t = busTags s := by rw [busTags, busTags, hjobs, hflight]

theorem Quiet.claimAlike {s t : State} (h : Quiet s t) : ClaimAlike s t :=
  ⟨h.inbox, (busTags_congr h.jobs h.inFlight ▸ Nat.le_refl _), h.claims⟩

/-- Inbox, entries, queue and job in flight as they were. -/
theorem claimAlike_of_eq {s t : State} (hinbox : t.inbox = s.inbox) (hentries : t.entries = s.entries)
    (hjobs : t.jobs = s.jobs) (hflight : t.inFlight = s.inFlight) : ClaimAlike s t :=
  ⟨hinbox, (busTags_congr hjobs hflight ▸ Nat.le_refl _), by rw [entryClaims, hentries]; exact List.Subset.refl _⟩

theorem claimAlike_answer (tag kind : Byte) (st : Status) (payload : List Byte) (s : State) :
    ClaimAlike s (answer tag kind st payload s) := claimAlike_of_eq rfl rfl rfl rfl

theorem claimAlike_changeOverrides (n : SlotNo) (os : List Override) (s : State) :
    ClaimAlike s (changeOverrides n os s) := by
  have hset : ClaimAlike s
      { s with slots := s.slots.set n { s.slots.get n with overrides := os, gen := (s.slots.get n).gen + 1 } } :=
    claimAlike_of_eq rfl rfl rfl rfl
  exact hset.trans (quiet_staleSlots _ _).claimAlike

theorem claimAlike_ownSetOverride (tag : Byte) (payload : List Byte) (s : State) :
    ClaimAlike s (ownSetOverride tag payload s) := by
  unfold ownSetOverride
  split
  next => exact claimAlike_answer ..
  next n o _ =>
    split_ifs
    · exact claimAlike_answer ..
    · exact claimAlike_answer ..
    · exact claimAlike_answer ..
    · have haccepted : ClaimAlike s (acceptOverride n o s) := by
        unfold acceptOverride
        split
        next => exact claimAlike_of_eq rfl rfl rfl rfl
        next => exact claimAlike_changeOverrides ..
      exact haccepted.trans (claimAlike_answer ..)

theorem claimAlike_ownClearOverrides (tag : Byte) (payload : List Byte) (s : State) :
    ClaimAlike s (ownClearOverrides tag payload s) := by
  unfold ownClearOverrides
  split
  next => exact claimAlike_answer ..
  next n _ =>
    split_ifs
    · exact claimAlike_answer ..
    · exact claimAlike_answer ..
    · have haccepted : ClaimAlike s (acceptClear n s) := by
        unfold acceptClear
        split
        next => exact claimAlike_of_eq rfl rfl rfl rfl
        next => exact claimAlike_changeOverrides ..
      exact haccepted.trans (claimAlike_answer ..)

/-! ### Tags as jobs start and end -/

/-- The start of the next job moves its tags. -/
theorem busTags_startNext_le (s : State) : (busTags (startNext s)).length ≤ (busTags s).length := by
  unfold startNext
  split
  next j rest _ hjobs =>
    rw [busTags_eq_append (s := startJob j false { s with jobs := rest }) rfl, busTags, hjobs]
    simp only [waitingTags, startJob_jobs, launch_job, List.flatMap_cons, List.length_append]
    omega
  next => exact Nat.le_refl _

theorem busTags_finishJob_le (s : State) : (busTags (finishJob s)).length ≤ (waitingTags s).length :=
  (busTags_startNext_le { s with inFlight := none, bus := .idle }).trans (by rw [busTags_eq_waitingTags rfl]; rfl)

theorem busTags_markToStop_le (g : InFlight) (s : State) :
    (busTags (markToStop g s)).length ≤ (waitingTags s).length + g.job.tags.length := by
  unfold markToStop
  split
  next =>
    refine (busTags_finishJob_le _).trans ?_
    rw [waitingTags, endTags_jobs]
    exact Nat.le_add_right _ _
  next =>
    rw [busTags_eq_append (s := { s with inFlight := some { g with stopMark := true } }) rfl, List.length_append]
    rfl

/-- A job without a tag ends without a reply. -/
theorem markToStop_inbox {g : InFlight} (h : g.job.tags = []) (s : State) : (markToStop g s).inbox = s.inbox := by
  unfold markToStop
  split
  next => rw [endStopped, finishJob_inbox, h]; rfl
  next => rfl

/-! ### Requests that make jobs -/

/-- A request joins with one host tag on a bus job. -/
theorem ClaimsFit.join {s t : State} (h : ClaimsFit s) {tag kind : Byte} (hroom : s.inbox.length < 4)
    (hfresh : ∀ o ∈ s.inbox, o.tag ≠ tag)
    (hinbox : t.inbox = s.inbox ++ [{ tag := tag, kind := kind, claim := .busJob }])
    (hbus : (busTags t).length ≤ (busTags s).length + 1) (hentries : t.entries = s.entries) : ClaimsFit t := by
  have hbusJob : claimTags .busJob t = claimTags .busJob s ++ [tag] := by simp [claimTags, hinbox]
  have hprofile : claimTags .profile t = claimTags .profile s := by simp [claimTags, hinbox]
  have hclaims : entryClaims t = entryClaims s := by rw [entryClaims, hentries, entryClaims]
  refine ⟨?_, ?_, ?_, fun k g hg => ?_, fun k k' g hg hg' => ?_⟩
  · rw [hinbox, List.length_append]
    exact hroom
  · rw [hinbox, List.map_append]
    refine List.Nodup.append h.distinct (List.nodup_singleton tag) (List.disjoint_singleton.mpr fun hmem => ?_)
    obtain ⟨o, ho, htag⟩ := List.mem_map.mp hmem
    exact hfresh o ho htag
  · rw [hbusJob, List.length_append]
    exact hbus.trans (Nat.add_le_add_right h.bus 1)
  · rw [hprofile]
    exact h.held k g (hclaims ▸ hg)
  · exact h.single k k' g (hclaims ▸ hg) (hclaims ▸ hg')

section Joining
variable {s : State} (h : ClaimsFit s) {tag : Byte} (hroom : s.inbox.length < 4) (hfresh : ∀ o ∈ s.inbox, o.tag ≠ tag)
include h hroom hfresh

theorem ClaimsFit.takeJob (kind : Byte) (w : JobWork) : ClaimsFit (takeJob tag kind w s) := by
  refine h.join hroom hfresh (kind := kind) (by simp [Machine.takeJob, joinInbox]) ?_ (by simp [Machine.takeJob])
  refine (busTags_startNext_le _).trans ?_
  simp only [busTags, joinInbox_jobs, joinInbox_inFlight, List.flatMap_append, List.flatMap_singleton, List.length_append,
    List.length_singleton]
  omega

theorem ClaimsFit.ownReadModule (payload : List Byte) : ClaimsFit (ownReadModule tag payload s) := by
  unfold Machine.ownReadModule
  split
  next => exact h.congr (claimAlike_answer ..)
  next =>
    split_ifs
    · exact h.congr (claimAlike_answer ..)
    · exact h.congr (claimAlike_answer ..)
    · exact h.takeJob hroom hfresh ..

theorem ClaimsFit.ownWriteUser (payload : List Byte) : ClaimsFit (ownWriteUser tag payload s) := by
  unfold Machine.ownWriteUser
  split
  next => exact h.congr (claimAlike_answer ..)
  next =>
    split_ifs
    · exact h.congr (claimAlike_answer ..)
    · exact h.congr (claimAlike_answer ..)
    · exact h.congr (claimAlike_answer ..)
    · exact h.congr (claimAlike_answer ..)
    · exact h.takeJob hroom hfresh ..

theorem ClaimsFit.ownRescan (payload : List Byte) : ClaimsFit (ownRescan tag payload s) := by
  unfold Machine.ownRescan
  split
  next => exact h.congr (claimAlike_answer ..)
  next n _ _ =>
    split_ifs
    · exact h.congr (claimAlike_answer ..)
    · exact h.congr (claimAlike_answer ..)
    · exact h.congr (claimAlike_answer ..)
    · refine h.join hroom hfresh (kind := kindRescan) (by simp [joinInbox]) ?_ (by simp)
      refine (busTags_startNext_le _).trans ?_
      have hdemand := waitingTags_enqueueScan n false [tag] (joinInbox tag kindRescan .busJob s)
      simp only [waitingTags, joinInbox_jobs, List.length_singleton] at hdemand
      simp only [busTags, enqueueScan_inFlight, joinInbox_inFlight, List.length_append]
      omega

theorem ClaimsFit.ownBusReset (payload : List Byte) : ClaimsFit (ownBusReset tag payload s) := by
  unfold Machine.ownBusReset
  split
  next =>
    refine h.join hroom hfresh (kind := kindBusReset) rfl ?_ rfl
    rw [busTags_eq_append (f := launch { work := .recover, presence := false, tags := [tag] } true) rfl, List.length_append]
    exact Nat.add_le_add_right (waitingTags_sublist_busTags s).length_le 1
  next => exact h.takeJob hroom hfresh ..

/-- A RESOLVE joins with a new entry that holds its tag. -/
theorem ClaimsFit.takeResolve (r : ResolveRequest) : ClaimsFit (takeResolve tag r s) := by
  refine ClaimsFit.congr ?_ (quiet_handOver _).claimAlike
  have hevicted : (evict s).entries.Sublist s.entries := by
    unfold evict
    split
    next => exact List.Sublist.refl _
    next => exact List.eraseP_sublist
  have hclaims : entryClaims (evict s) ⊆ entryClaims s := (hevicted.map entryClaim).subset
  generalize ht : joinInbox tag kindResolve .profile (allocate tag r (evict s)) = t
  have hinbox : t.inbox = s.inbox ++ [{ tag := tag, kind := kindResolve, claim := .profile }] := by
    rw [← ht, joinInbox, allocate_inbox, evict_inbox]
  have hbusJob : claimTags .busJob t = claimTags .busJob s := by simp [claimTags, hinbox]
  have hprofile : claimTags .profile t = claimTags .profile s ++ [tag] := by simp [claimTags, hinbox]
  have hnew {k g} (hg : (k, some g) ∈ entryClaims t) : (k, some g) ∈ entryClaims s ∨
      k = searchHandle ((evict s).entries.map Entry.handle) 6 (evict s).nextHandle ∧ g = tag := by
    rw [← ht, entryClaims, joinInbox_entries, allocate, List.map_append] at hg
    rcases List.mem_append.mp hg with hg | hg
    · exact .inl (hclaims hg)
    · refine .inr ?_
      simpa [entryClaim, requestTag] using hg
  have habsent {k} (hk : (k, some tag) ∈ entryClaims s) : False := by
    obtain ⟨o, ho, _, htag⟩ := mem_claimTags.mp (h.held k tag hk)
    exact hfresh o ho htag
  refine ⟨?_, ?_, ?_, fun k g hg => ?_, fun k k' g hg hg' => ?_⟩
  · rw [hinbox, List.length_append]
    exact hroom
  · rw [hinbox, List.map_append]
    refine List.Nodup.append h.distinct (List.nodup_singleton tag) (List.disjoint_singleton.mpr fun hmem => ?_)
    obtain ⟨o, ho, htag⟩ := List.mem_map.mp hmem
    exact hfresh o ho htag
  · rw [hbusJob, ← ht, busTags_congr (s := s) (by simp) (by simp)]
    exact h.bus
  · rw [hprofile, List.mem_append]
    exact (hnew hg).imp (h.held k g) fun hg => List.mem_singleton.mpr hg.2
  · rcases hnew hg with hold | ⟨hk, hgt⟩ <;> rcases hnew hg' with hold' | ⟨hk', hgt'⟩
    · exact h.single k k' g hold hold'
    · exact (habsent (hgt' ▸ hold)).elim
    · exact (habsent (hgt ▸ hold')).elim
    · rw [hk, hk']

theorem ClaimsFit.ownResolve (payload : List Byte) : ClaimsFit (ownResolve tag payload s) := by
  unfold Machine.ownResolve
  split
  next => exact h.congr (claimAlike_answer ..)
  next r _ =>
    split
    next => exact h.takeResolve hroom hfresh r
    next => exact h.congr (claimAlike_answer ..)

end Joining

/-! ### Requests that end -/

theorem endRequest_inbox_of_find {t : Byte} {o : Outstanding} {s : State} (ho : (s.inbox.find? fun o => o.tag == t) = some o)
    (st : Status) (payload : List Byte) : (endRequest st payload t s).inbox = s.inbox.erase o := by
  simp [endRequest, ho, place]

/-- The claims that are left when one request is gone. -/
theorem mem_claimTags_erase {c : Claim} {s t : State} {o : Outstanding} (hinbox : t.inbox = s.inbox.erase o) {g : Byte}
    (hg : g ∈ claimTags c s) (hother : o.claim ≠ c ∨ o.tag ≠ g) : g ∈ claimTags c t := by
  obtain ⟨x, hx, hclaim, htag⟩ := mem_claimTags.mp hg
  refine mem_claimTags.mpr ⟨x, ?_, hclaim, htag⟩
  rw [hinbox]
  refine (List.mem_erase_of_ne ?_).mpr hx
  rintro rfl
  exact hother.elim (fun h => h hclaim) fun h => h htag

theorem claimTags_length (c : Claim) (s : State) : (claimTags c s).length = s.inbox.countP fun o => o.claim == c := by
  rw [claimTags, List.length_map, List.countP_eq_length_filter]

theorem claimTags_erase_length {c : Claim} {s t : State} {o : Outstanding} (hinbox : t.inbox = s.inbox.erase o)
    (ho : o ∈ s.inbox) : (claimTags c t).length = (claimTags c s).length - if o.claim = c then 1 else 0 := by
  rw [claimTags_length, claimTags_length, hinbox, List.countP_erase]
  by_cases hc : o.claim = c <;> simp [hc, ho]

/-- A request with a bus claim ends as its tag leaves the bus jobs. -/
theorem ClaimsFit.endBus {s t : State} (h : ClaimsFit s) {o : Outstanding} (ho : o ∈ s.inbox) (hclaim : o.claim = .busJob)
    (hinbox : t.inbox = s.inbox.erase o) (hbus : (busTags t).length + 1 ≤ (busTags s).length)
    (hentries : t.entries = s.entries) : ClaimsFit t := by
  have hclaims : entryClaims t = entryClaims s := by rw [entryClaims, hentries, entryClaims]
  have hsub : t.inbox.Sublist s.inbox := hinbox ▸ List.erase_sublist
  refine ⟨hsub.length_le.trans h.room, h.distinct.sublist (hsub.map _), ?_, fun k g hg => ?_, fun k k' g hg hg' => ?_⟩
  · rw [claimTags_erase_length hinbox ho, if_pos hclaim]
    have hbound := h.bus
    omega
  · exact mem_claimTags_erase hinbox (h.held k g (hclaims ▸ hg)) (.inl (by rw [hclaim]; exact fun h => nomatch h))
  · exact h.single k k' g (hclaims ▸ hg) (hclaims ▸ hg')

/-- A RESOLVE ends as its entry goes. -/
theorem ClaimsFit.endProfile {s : State} (h : ClaimsFit s) {e : Entry} (he : e ∈ s.entries) {g : Byte}
    (hg : requestTag e = some g) (st : Status) (payload : List Byte) :
    ClaimsFit (freeEntry e.handle (endRequest st payload g s)) := by
  have hclaim : (e.handle, some g) ∈ entryClaims s := mem_entryClaims.mpr ⟨e, he, rfl, hg⟩
  obtain ⟨o, ho, hprofile, htag⟩ := mem_claimTags.mp (h.held _ _ hclaim)
  obtain ⟨x, hx⟩ : ∃ x, (s.inbox.find? fun o => o.tag == g) = some x := by
    refine Option.isSome_iff_exists.mp (List.find?_isSome.mpr ⟨o, ho, ?_⟩)
    simpa using htag
  have hxo : x = o := by
    refine List.inj_on_of_nodup_map h.distinct (List.mem_of_find?_eq_some hx) ho ?_
    rw [htag]
    simpa using List.find?_some hx
  rw [hxo] at hx
  have hinbox : (freeEntry e.handle (endRequest st payload g s)).inbox = s.inbox.erase o := by
    rw [freeEntry_inbox, endRequest_inbox_of_find hx]
  have hsub : (freeEntry e.handle (endRequest st payload g s)).inbox.Sublist s.inbox := hinbox ▸ List.erase_sublist
  have hleft {k g'} (hk : (k, some g') ∈ entryClaims (freeEntry e.handle (endRequest st payload g s))) :
      (k, some g') ∈ entryClaims s ∧ k ≠ e.handle := by
    obtain ⟨e', he', hk, hg'⟩ := mem_entryClaims.mp hk
    rw [freeEntry, endRequest_entries] at he'
    obtain ⟨he', hne⟩ := List.mem_filter.mp he'
    exact ⟨mem_entryClaims.mpr ⟨e', he', hk, hg'⟩, hk ▸ bne_iff_ne.mp hne⟩
  refine ⟨hsub.length_le.trans h.room, h.distinct.sublist (hsub.map _), ?_, fun k g' hk => ?_, fun k k' g' hk hk' => ?_⟩
  · rw [claimTags_erase_length hinbox ho, if_neg (by rw [hprofile]; exact fun h => nomatch h),
      busTags_congr (s := s) (by simp) (by simp)]
    exact h.bus
  · obtain ⟨hold, hne⟩ := hleft hk
    refine mem_claimTags_erase hinbox (h.held k g' hold) (.inr fun hsame => hne ?_)
    rw [htag] at hsame
    exact h.single k e.handle g (hsame ▸ hold) hclaim
  · exact h.single k k' g' (hleft hk).1 (hleft hk').1

theorem claimAlike_freeEntry (k : Byte) (s : State) : ClaimAlike s (freeEntry k s) :=
  ⟨rfl, Nat.le_refl _, (List.filter_sublist.map entryClaim).subset⟩

theorem ClaimsFit.dropEntry {s : State} (h : ClaimsFit s) {e : Entry} (he : e ∈ s.entries) : ClaimsFit (dropEntry e s) := by
  unfold Machine.dropEntry
  split
  next t hst => exact h.endProfile he (by simp [requestTag, hst]) _ _
  next t sn hst =>
    have hended := h.endProfile he (g := t) (by simp [requestTag, hst]) .cancelled [e.handle]
    have hidle : ClaimsFit { freeEntry e.handle (endRequest .cancelled [e.handle] t s) with work := none } :=
      hended.congr (claimAlike_of_eq rfl rfl rfl rfl)
    exact hidle.congr (quiet_handOver _).claimAlike
  all_goals exact h.congr (claimAlike_freeEntry ..)

theorem ClaimsFit.ownDrop {s : State} (h : ClaimsFit s) (tag : Byte) (payload : List Byte) :
    ClaimsFit (ownDrop tag payload s) := by
  unfold Machine.ownDrop withEntry
  split
  next => exact h.congr (claimAlike_answer ..)
  next =>
    split
    next => exact h.congr (claimAlike_answer ..)
    next e he =>
      unfold dropNamed
      split
      next => exact h.congr (claimAlike_answer ..)
      next => exact (h.dropEntry (entryAt_mem he)).congr (claimAlike_answer ..)

/-! ### CANCEL -/

/-- A tag that waits leaves the queue. -/
theorem waitingTags_dropClaim (t : Byte) {js : List Job} (ht : (js.any fun j => j.tags.contains t) = true) :
    ((dropClaim t js).flatMap Job.tags).length + 1 ≤ (js.flatMap Job.tags).length := by
  have hle (ks : List Job) :
      ((ks.map fun j => { j with tags := j.tags.erase t }).flatMap Job.tags).length ≤ (ks.flatMap Job.tags).length := by
    rw [List.flatMap_map]
    exact (List.Sublist.flatMap_right ks fun j _ => List.erase_sublist).length_le
  have hstrict : ((js.map fun j => { j with tags := j.tags.erase t }).flatMap Job.tags).length + 1 ≤
      (js.flatMap Job.tags).length := by
    induction js with
    | nil => exact nomatch ht
    | cons j js ih =>
      have hrest := hle js
      simp only [List.map_cons, List.flatMap_cons, List.length_append]
      by_cases hj : t ∈ j.tags
      · have hpos := List.length_pos_of_mem hj
        rw [List.length_erase_of_mem hj]
        omega
      · have hjs : (js.any fun j => j.tags.contains t) = true := by simpa [hj] using ht
        have hmore := ih hjs
        rw [List.erase_of_not_mem hj]
        omega
  exact (Nat.add_le_add_right (List.filter_sublist.flatMap Job.tags).length_le 1).trans hstrict

section Cancel
variable {s : State} (h : ClaimsFit s) (tag : Byte) {t : Byte} {o : Outstanding}
  (ho : (s.inbox.find? fun o => o.tag == t) = some o) (hclaim : o.claim = .busJob)
include h ho hclaim

theorem ClaimsFit.cancelWaiting (ht : (s.jobs.any fun j => j.tags.contains t) = true) :
    ClaimsFit (cancelledThenOk tag t { s with jobs := dropClaim t s.jobs }) := by
  refine h.endBus (List.mem_of_find?_eq_some ho) hclaim ?_ ?_ ?_
  · rw [cancelledThenOk, answer_inbox]
    exact endRequest_inbox_of_find (s := { s with jobs := dropClaim t s.jobs }) ho _ _
  · have hdrop := waitingTags_dropClaim t ht
    simp only [busTags, cancelledThenOk, answer_jobs, answer_inFlight, endRequest_jobs, endRequest_inFlight,
      List.length_append]
    omega
  · simp [cancelledThenOk]

theorem ClaimsFit.cancelFlight {f : InFlight} (hf : s.inFlight = some f) (ht : f.job.tags.contains t = true) :
    ClaimsFit (dropFlightClaim t f (cancelledThenOk tag t s)) := by
  have hmem : t ∈ f.job.tags := List.contains_iff_mem.mp ht
  have hlength : (f.job.tags.erase t).length + 1 = f.job.tags.length := by
    rw [List.length_erase_of_mem hmem]
    exact Nat.sub_add_cancel (List.length_pos_of_mem hmem)
  have hinbox : (cancelledThenOk tag t s).inbox = s.inbox.erase o := by
    rw [cancelledThenOk, answer_inbox]
    exact endRequest_inbox_of_find ho _ _
  have hwaiting : waitingTags (cancelledThenOk tag t s) = waitingTags s := by simp [waitingTags, cancelledThenOk]
  have hall := busTags_eq_append hf
  unfold dropFlightClaim
  dsimp only
  split
  next hnone =>
    have htags : f.job.tags.erase t = [] := by
      simp only [claimless, Bool.and_eq_true, List.isEmpty_iff] at hnone
      exact hnone.1
    refine h.endBus (List.mem_of_find?_eq_some ho) hclaim ?_ ?_ ?_
    · rw [markToStop_inbox (by exact htags), hinbox]
    · refine (Nat.add_le_add_right (busTags_markToStop_le _ _) 1).trans ?_
      rw [hwaiting, hall, List.length_append, Nat.add_assoc, hlength]
    · simp [cancelledThenOk]
  next =>
    refine h.endBus (List.mem_of_find?_eq_some ho) hclaim hinbox ?_ (by simp [cancelledThenOk])
    rw [busTags_eq_append (f := { f with job := { f.job with tags := f.job.tags.erase t } }) rfl, List.length_append,
      Nat.add_assoc, hlength, hall, List.length_append]
    exact Nat.add_le_add_right (Nat.le_of_eq (congrArg List.length hwaiting)) _

theorem ClaimsFit.cancelJob : ClaimsFit (cancelJob tag t s) := by
  unfold Machine.cancelJob
  split
  next ht => exact h.cancelWaiting tag ho hclaim ht
  next =>
    split
    next f hf =>
      split
      next ht =>
        unfold cancelInFlight
        split
        · exact h.cancelFlight tag ho hclaim hf ht
        · exact h.cancelFlight tag ho hclaim hf ht
        · exact h.congr (claimAlike_answer ..)
        · exact h.congr (claimAlike_answer ..)
      next => exact h.congr (claimAlike_answer ..)
    next => exact h.congr (claimAlike_answer ..)

end Cancel

theorem ClaimsFit.ownCancel {s : State} (h : ClaimsFit s) (tag : Byte) (payload : List Byte) :
    ClaimsFit (ownCancel tag payload s) := by
  unfold Machine.ownCancel
  split
  next => exact h.congr (claimAlike_answer ..)
  next t _ =>
    split
    next => exact h.congr (claimAlike_answer ..)
    next o ho =>
      split
      next hclaim => exact h.cancelJob tag ho hclaim
      next =>
        unfold cancelResolve
        split
        next e he => exact (h.dropEntry (List.mem_of_find?_eq_some he)).congr (claimAlike_answer ..)
        next => exact h.congr (claimAlike_answer ..)

/-! ### RESET -/

/-- With nothing outstanding and no tag on a bus job, no claim is left but that of no entry. -/
theorem claimsFit_of_empty {s : State} (hinbox : s.inbox = []) (hbus : busTags s = [])
    (hentries : ∀ e ∈ s.entries, requestTag e = none) : ClaimsFit s := by
  have hnone {k g} (hk : (k, some g) ∈ entryClaims s) : False := by
    obtain ⟨e, he, _, hg⟩ := mem_entryClaims.mp hk
    rw [hentries e he] at hg
    exact nomatch hg
  refine ⟨?_, ?_, ?_, fun k g hk => (hnone hk).elim, fun k k' g hk _ => (hnone hk).elim⟩
  · rw [hinbox]
    exact Nat.zero_le 4
  · rw [hinbox]
    exact List.nodup_nil
  · rw [hbus]
    exact Nat.zero_le _

theorem flatMap_tags_sessionJobs (js : List Job) : (sessionJobs js).flatMap Job.tags = [] := by
  rw [sessionJobs, List.flatMap_map]
  simp [withoutTags]

/-- A session reset leaves no host tag on a bus job, and ends no request of its own. -/
theorem sessionBus_claims (s : State) : busTags (sessionBus s) = [] ∧ (sessionBus s).inbox = s.inbox := by
  have hwaiting : waitingTags { s with jobs := sessionJobs s.jobs } = [] := flatMap_tags_sessionJobs s.jobs
  have hmarked (f : InFlight) :
      busTags (markToStop { f with job := withoutTags f.job } { s with jobs := sessionJobs s.jobs }) = [] ∧
        (markToStop { f with job := withoutTags f.job } { s with jobs := sessionJobs s.jobs }).inbox = s.inbox := by
    refine ⟨List.length_eq_zero_iff.mp (Nat.le_zero.mp ?_), markToStop_inbox rfl _⟩
    refine (busTags_markToStop_le _ _).trans ?_
    rw [hwaiting]
    exact Nat.le_refl 0
  have hgoes (f : InFlight) :
      busTags { s with jobs := sessionJobs s.jobs, inFlight := some { f with job := withoutTags f.job } } = [] := by
    rw [busTags_eq_append (f := { f with job := withoutTags f.job }) rfl]
    exact List.append_eq_nil_iff.mpr ⟨hwaiting, rfl⟩
  unfold sessionBus
  dsimp only
  split
  next hf => exact ⟨(busTags_eq_waitingTags (by exact hf)).trans hwaiting, rfl⟩
  next f _ =>
    split
    · split
      · exact ⟨hgoes f, rfl⟩
      · exact hmarked f
    · exact hmarked f
    · exact ⟨hgoes f, rfl⟩
    · exact ⟨hgoes f, rfl⟩

theorem ClaimsFit.ownReset {s : State} (h : ClaimsFit s) (tag : Byte) (payload : List Byte) :
    ClaimsFit (ownReset tag payload s) := by
  obtain ⟨hbus, hinbox⟩ := sessionBus_claims (answer tag kindReset .ok [] (abortAll s))
  unfold Machine.ownReset
  split
  next => exact h.congr (claimAlike_answer ..)
  next => exact claimsFit_of_empty hinbox hbus fun e he => nomatch he
  next =>
    refine claimsFit_of_empty hinbox hbus fun e he => ?_
    exact Option.isNone_iff_eq_none.mp (List.mem_filter.mp he).2

/-! ### Every frame -/

/-- Only FETCH NOTICES, CANCEL and RESET are taken while four requests are outstanding. -/
theorem Taken.room {s : State} {tag kind : Byte} (h : Taken s tag kind) (hkind : kind ≠ 0x30 ∧ kind ≠ 0x31 ∧ kind ≠ 0x33) :
    s.inbox.length < 4 := by
  obtain ⟨_, _, _, _, _, hroom⟩ := h
  obtain ⟨hfetch, hcancel, hreset⟩ := hkind
  exact hroom.resolve_right fun hk => hk.elim hfetch fun hk => hk.elim hcancel hreset

theorem Taken.fresh {s : State} {tag kind : Byte} (h : Taken s tag kind) : ∀ o ∈ s.inbox, o.tag ≠ tag := by
  obtain ⟨_, _, _, _, hfresh, _⟩ := h
  exact hfresh

theorem ClaimsFit.ownerOf {s : State} (h : ClaimsFit s) {tag kind : Byte} (payload : List Byte)
    (htaken : Taken s tag kind) : ClaimsFit (ownerOf tag kind payload s) := by
  refine ownerOf_elim tag kind payload s (fun _ hquiet => h.congr hquiet.claimAlike) (fun hk => ?_) (fun hk => ?_)
    (fun hk => ?_) (h.congr (claimAlike_ownSetOverride ..)) (h.congr (claimAlike_ownClearOverrides ..)) (fun hk => ?_)
    (h.ownDrop ..) (h.ownCancel ..) (fun hk => ?_) (h.ownReset ..)
  · exact h.ownReadModule (htaken.room (by rw [hk]; decide)) htaken.fresh payload
  · exact h.ownWriteUser (htaken.room (by rw [hk]; decide)) htaken.fresh payload
  · exact h.ownRescan (htaken.room (by rw [hk]; decide)) htaken.fresh payload
  · exact h.ownResolve (htaken.room (by rw [hk]; decide)) htaken.fresh payload
  · exact h.ownBusReset (htaken.room (by rw [hk]; decide)) htaken.fresh payload

/-- Every frame, byte and gap keeps the bus right and the claims bounded. -/
theorem linkKeeps_busOk_claimsFit : LinkKeeps fun s => BusOk s ∧ ClaimsFit s where
  receiver _ _ h := ⟨h.1.congr (busAlike_of_eq rfl rfl rfl rfl rfl), h.2.congr (claimAlike_of_eq rfl rfl rfl rfl)⟩
  dropped _ _ h := ⟨h.1.congr (quiet_raise _ _).busAlike, h.2.congr (quiet_raise _ _).claimAlike⟩
  refused _ _ _ _ h := ⟨h.1.congr (busAlike_answer ..), h.2.congr (claimAlike_answer ..)⟩
  owned tag kind payload _ htaken h := ⟨h.1.ownerOf tag kind payload, h.2.ownerOf payload htaken⟩

end Sys2Proof.Machine
end

section
/-! Every step keeps bus, queue and the slots in READING in agreement (R50, R55, R65, R67, R70, R82, R208). -/

namespace Sys2Proof.Machine

/-! ### What the agreement says of queue and lines -/

/-- At most eight presence scans wait, one for each slot, and every other waiting job holds a host tag. -/
theorem QueueInv.length_le {s : State} (h : QueueInv s) : s.jobs.length ≤ 8 + (waitingTags s).length := by
  have hcount (js : List Job) (hjs : ∀ j ∈ js, WaitingOk s j) :
      js.length ≤ (js.filterMap scanSlot).length + (js.flatMap Job.tags).length := by
    induction js with
    | nil => simp
    | cons j js ih =>
      have hrest := ih fun k hk => hjs k (List.mem_cons_of_mem j hk)
      obtain ⟨_, _, _, htags, _⟩ := hjs j List.mem_cons_self
      rw [List.length_cons, List.flatMap_cons, List.length_append]
      cases hslot : scanSlot j with
      | some n =>
        rw [List.filterMap_cons_some hslot, List.length_cons]
        omega
      | none =>
        have hnoscan : isScan j = false := Bool.eq_false_iff.mpr fun hs => by
          obtain ⟨n, hn⟩ := isScan_iff.mp hs
          rw [scanSlot_eq_some_iff.mpr hn] at hslot
          exact nomatch hslot
        rw [List.filterMap_cons_none hslot, htags hnoscan]
        omega
  have hslots : (s.jobs.filterMap scanSlot).length ≤ 8 := by
    have hcard := h.2.length_le_card
    rwa [Fintype.card_fin] at hcard
  exact (hcount s.jobs h.1).trans (Nat.add_le_add_right hslots _)

theorem BusInv.lines_released {s : State} (h : BusInv s) (hbus : s.bus = .idle ∨ s.bus = .faulted) :
    busLines s = .released := by
  rcases hbus with hbus | hbus
  · exact busLines_quiet (h.idle hbus).1 (by rw [hbus]; exact fun h => nomatch h)
  · exact busLines_quiet (h.faulted hbus).1 (by rw [hbus]; exact fun h => nomatch h)

theorem BusOk.lines_recovery {s : State} (h : BusOk s) (hbus : s.bus = .recovering) : busLines s = .recovery := by
  refine busLines_recovering h.run hbus fun f hf => h.recovery f hf ?_
  have hflight := h.bus.flight hf
  rw [hbus] at hflight
  by_contra hother
  rw [if_neg hother] at hflight
  exact nomatch hflight

/-! ### The events -/

/-- Out of a line reset, or at its release: the bus is right, and no more than four host tags wait. -/
structure BusKept (t : State) : Prop where
  ok : BusOk t
  tags : (waitingTags t).length ≤ 4

/-- A command keeps a state that is out of the line reset and stays out of it. -/
theorem Inv.busKept_exec {s t : State} (h : Inv s) (hrun : s.resetAsserted = false) {c : Instr} (hc : c ≠ .lineReset)
    (ht : exec c s = .next t) : BusKept t := by
  have hs := h.busOk hrun
  have hfit := h.claimsFit
  have hsame : BusKept s := ⟨hs, hfit.waitingTags_le⟩
  have hsub {u : State} (hu : u.jobs.Sublist s.jobs) : (waitingTags u).length ≤ 4 :=
    (waitingTags_sublist hu).length_le.trans hfit.waitingTags_le
  have hframes (hu : BusOk t ∧ ClaimsFit t) : BusKept t := ⟨hu.1, hu.2.waitingTags_le⟩
  cases hframe : requestFrame c with
  | some frame => exact hframes (linkKeeps_busOk_claimsFit.exec_request hframe ⟨hs, hfit⟩ ht)
  | none =>
    cases c with
    | lineReset => exact absurd rfl hc
    | lineResetRelease rate pres =>
      rcases exec_lineResetRelease_cases ht with rfl | ⟨hreset, rfl⟩
      · exact hsame
      · exact ⟨busOk_releaseReset h hreset rate pres, hsub (List.Sublist.refl _)⟩
    | presenceLow n =>
      rcases exec_presenceLow_cases ht with ⟨_, rfl⟩ | ⟨_, rfl⟩
      · exact hsame
      · exact ⟨hs.startSettling n, hsub (by simp)⟩
    | presenceHigh n =>
      rcases exec_presenceHigh_cases ht with ⟨_, rfl⟩ | ⟨_, rfl⟩
      · exact hsame
      · exact ⟨hs.presenceHigh n, hsub (presenceHigh_jobs_sublist n _)⟩
    | settleExpiry n =>
      rcases exec_settleExpiry_cases ht with rfl | ⟨hst, rfl⟩
      · exact hsame
      · exact ⟨hs.insertion hst, (waitingTags_insertion n s).trans hfit.waitingTags_le⟩
    | segmentDone bytes =>
      rcases exec_segmentDone_cases ht with rfl | ⟨f, n, hf, hwork, _, rfl⟩
      · exact hsame
      · exact ⟨hs.segmentEnd hf hwork bytes, hsub (segmentEnd_jobs_sublist n f bytes s)⟩
    | transactionFailed acked =>
      rcases exec_transactionFailed_cases ht with rfl | ⟨f, hf, hactivity, rfl⟩
      · exact hsame
      · exact ⟨hs.transactionEnd hf hactivity rfl rfl, hsub (transactionEnd_jobs_sublist _ s)⟩
    | retryTimerExpiry =>
      rcases exec_retryTimerExpiry_cases ht with rfl | ⟨f, hf, hactivity, ⟨hmark, rfl⟩ | ⟨_, rfl⟩⟩
      · exact hsame
      · exact ⟨hs.endStopped (hs.queued_of_marked hf hmark) f, hsub (endStopped_jobs_sublist f s)⟩
      · refine ⟨hs.progress hf rfl rfl rfl fun hrecover => ?_, hsub (List.Sublist.refl _)⟩
        exact nomatch hactivity.symm.trans (hs.recovery f hf hrecover)
    | stuckBus acked =>
      rcases exec_stuckBus_cases ht with rfl | ⟨f, hf, _, rfl⟩
      · exact hsame
      · exact ⟨hs.stuckBus (g := noteAcked acked f) hf rfl rfl 0, hsub (by rw [stuckFailure_jobs])⟩
    | recoveryEnd looks scl sda =>
      rcases exec_recoveryEnd_cases ht with rfl | ⟨hbus, rfl⟩
      · exact hsame
      · have hlooked : BusOk { s with pulses := pulsesSent looks } := hs.congr (busAlike_of_eq rfl rfl rfl rfl rfl)
        exact ⟨hlooked.recoveryOutcome hbus _, (waitingTags_recoveryOutcome _ _).trans hfit.waitingTags_le⟩
    | moduleReadDone bytes =>
      rcases exec_moduleReadDone_cases ht with rfl | ⟨f, n, off, len, hf, hwork, rfl | rfl⟩
      · exact hsame
      · refine ⟨hs.endStopped (hs.queued_of_not_scan hf fun m => ?_) f, hsub (endStopped_jobs_sublist f s)⟩
        rw [hwork]
        exact fun h => nomatch h
      · refine ⟨hs.finish_of_not_scan hf (fun m => ?_) (busAlike_endTags ..), hsub ?_⟩
        · rw [hwork]
          exact fun h => nomatch h
        · simpa using finishJob_jobs_sublist (endTags .ok bytes f.job.tags s)
    | pageWriteDone =>
      rcases exec_pageWriteDone_cases ht with rfl | ⟨f, hf, hwrite, rfl⟩
      · exact hsame
      · refine ⟨hs.progress hf rfl rfl rfl fun hrecover => ?_, hsub (List.Sublist.refl _)⟩
        rw [inPageWrite, hrecover] at hwrite
        exact nomatch hwrite
    | pollTimerExpiry =>
      rcases exec_pollTimerExpiry_cases ht with rfl | ⟨f, hf, hactivity, rfl⟩
      · exact hsame
      · refine ⟨hs.progress hf rfl rfl rfl fun hrecover => ?_, hsub (List.Sublist.refl _)⟩
        exact nomatch hactivity.symm.trans (hs.recovery f hf hrecover)
    | pollDone acked =>
      rcases exec_pollDone_cases ht with rfl | ⟨f, n, off, data, hf, hwork, _, rfl⟩
      · exact hsame
      · exact ⟨hs.pollEnd hf hwork acked, hsub (pollEnd_jobs_sublist f n off acked s)⟩
    | readBackDone bytes =>
      rcases exec_readBackDone_cases ht with rfl | ⟨f, n, off, data, hf, hwork, rfl⟩
      · exact hsame
      · exact ⟨hs.readBackEnd hf hwork bytes, hsub (readBackEnd_jobs_sublist f n off data bytes s)⟩
    | userWriteAbandonEnd =>
      rcases exec_userWriteAbandonEnd_cases ht with rfl | ⟨f, hf, hactivity, rfl⟩
      · exact hsame
      · refine ⟨hs.finish_of_not_scan hf (fun n hwork => ?_) (busAlike_refl s), hsub (finishJob_jobs_sublist s)⟩
        obtain ⟨_, hprogress, _⟩ := h.flight f hf
        simp [progressOk, hwork, hactivity] at hprogress
    | resolutionComplete =>
      rcases exec_resolutionComplete_cases ht with rfl | ⟨w, e, tag, sn, rfl⟩
      · exact hsame
      · have halike : BusAlike s (resolutionEnd w e tag sn s) :=
          busAlike_of_eq (by simp [resolutionEnd]) (by simp [resolutionEnd]) (by simp [resolutionEnd])
            (by simp [resolutionEnd]) (by simp [resolutionEnd])
        exact ⟨hs.congr halike, hsub (halike.jobs ▸ List.Sublist.refl _)⟩
    | characterDropped =>
      cases ht
      exact hsame
    | byteReceived b => exact hframes (linkKeeps_busOk_claimsFit.exec_byteReceived ⟨hs, hfit⟩ ht)
    | gapExpiry => exact hframes (linkKeeps_busOk_claimsFit.exec_gapExpiry ⟨hs, hfit⟩ ht)
    | replySendStart =>
      rcases exec_replySendStart_cases ht with rfl | ⟨r, rest, rfl⟩
      · exact hsame
      · exact ⟨hs.congr (busAlike_of_eq rfl rfl rfl rfl rfl), hsub (List.Sublist.refl _)⟩
    | replySent =>
      rcases exec_replySent_cases ht with rfl | rfl | ⟨_, rfl⟩
      · exact hsame
      · exact ⟨hs.congr (busAlike_of_eq rfl rfl rfl rfl rfl), hsub (List.Sublist.refl _)⟩
      · exact ⟨busOk_fullReset _, Nat.zero_le 4⟩
    | _ => exact nomatch hframe

/-! ### In a line reset -/

/-- While RESET_N is asserted only its release has an effect (R43, R166). -/
theorem exec_in_reset (pending : List Instr) {c : Instr} (hc : ∀ rate pres, c ≠ .lineResetRelease rate pres) :
    exec c { State.reset with pending := pending } = .next { State.reset with pending := pending } := by
  cases c with
  | lineResetRelease rate pres => exact absurd rfl (hc rate pres)
  | settleExpiry n =>
    have hst : (State.reset.slots.get n).state ≠ .settling := by
      rw [reset_slots_get]
      exact fun h => nomatch h
    exact congrArg Host.Outcome.next (if_neg hst)
  | _ => rfl

/-- What O58 says of a state. -/
def BusGoal (t : State) : Prop :=
  ReadingInv t ∧ BusInv t ∧ QueueInv t ∧ t.jobs.length ≤ 12 ∧
    (t.bus = .idle ∨ t.bus = .faulted → busLines t = .released) ∧ (t.bus = .recovering → busLines t = .recovery)

theorem BusKept.goal {t : State} (h : BusKept t) : BusGoal t :=
  ⟨h.ok.reading, h.ok.bus, h.ok.queue, h.ok.queue.length_le.trans (Nat.add_le_add_left h.tags 8),
    h.ok.bus.lines_released, h.ok.lines_recovery⟩

theorem busGoal_reset (pending : List Instr) : BusGoal { State.reset with pending := pending } := by
  have h := resetKeepsInv pending
  exact ⟨h.reading, h.bus, h.queue, Nat.zero_le 12, h.bus.lines_released, fun hbus => nomatch hbus⟩

theorem Inv.busGoal {s : State} (h : Inv s) : BusGoal s := by
  cases hrun : s.resetAsserted with
  | true =>
    rw [h.eq_reset hrun]
    exact busGoal_reset _
  | false => exact BusKept.goal ⟨h.busOk hrun, h.claimsFit.waitingTags_le⟩

theorem Inv.busGoal_exec {s t : State} (h : Inv s) {c : Instr} (ht : exec c s = .next t) : BusGoal t := by
  by_cases hreset : c = .lineReset
  · subst hreset
    cases ht
    exact busGoal_reset _
  · cases hrun : s.resetAsserted with
    | false => exact (h.busKept_exec hrun hreset ht).goal
    | true =>
      by_cases hrelease : ∃ rate pres, c = .lineResetRelease rate pres
      · obtain ⟨rate, pres, rfl⟩ := hrelease
        rcases exec_lineResetRelease_cases ht with rfl | ⟨_, rfl⟩
        · exact h.busGoal
        · refine BusKept.goal ⟨busOk_releaseReset h hrun rate pres, ?_⟩
          exact h.claimsFit.waitingTags_le
      · rw [h.eq_reset hrun, exec_in_reset _ fun rate pres hc => hrelease ⟨rate, pres, hc⟩] at ht
        cases ht
        exact busGoal_reset _

/-- Settles O58: out of a line reset command by command, in it only the release has an effect. -/
theorem stepKeepsBusAndQueue : Obligations.StepKeepsBusAndQueue := by
  intro s t h ht
  rcases step_cases ht with rfl | ⟨c, rest, hexec⟩
  · exact h.busGoal
  · exact (h.withPending rest).busGoal_exec hexec

end Sys2Proof.Machine
end

section
/-! The records of replies and notices byte by byte (R151, R202, R204, R206, R207). -/

namespace Sys2Proof.Machine

/-! ### Codes -/

/-- Parameter codes run from 1 in the order of R204. -/
theorem paramCode_of_getElem? (i : Nat) (q : Param)
    (h : ([.fper, .sper, .acc, .opn, .cls, .hld, .cyc, .rfr, .trn, .rcl, .wrc, .win, .refresh] : List Param)[i]? = some q) :
    paramCode q = BitVec.ofNat 8 (i + 1) := by
  obtain ⟨hi, rfl⟩ := List.getElem?_eq_some_iff.mp h
  simp only [List.length_cons, List.length_nil] at hi
  interval_cases i <;> rfl

/-- Slot state codes run from 0 in the order of R204. -/
theorem slotStateCode_of_getElem? (i : Nat) (st : SlotState)
    (h : ([.empty, .settling, .reading, .valid, .suspect, .unusable, .unreadable] : List SlotState)[i]? = some st) :
    slotStateCode st = BitVec.ofNat 8 i := by
  obtain ⟨hi, rfl⟩ := List.getElem?_eq_some_iff.mp h
  simp only [List.length_cons, List.length_nil] at hi
  interval_cases i <;> rfl

theorem scanPending_iff (s : State) (n : SlotNo) :
    scanPending s n = true ↔
      (∃ j ∈ s.jobs, j.work = .scan n) ∨ ∃ f, s.inFlight = some f ∧ f.job.work = .scan n ∧ f.stopMark = false := by
  rw [scanPending, Bool.or_eq_true, scanWaiting_iff]
  refine or_congr_right ?_
  cases s.inFlight with
  | none => simp
  | some f => simp [isScanOf_iff]

/-! ### Two flags in a byte -/

/-- Two booleans as the two lowest bits. -/
theorem boolByte_or_shift (a b : Bool) :
    (boolByte a ||| (boolByte b <<< 1)) = (if a = true then 1 else 0) + (if b = true then 2 else 0) := by
  cases a <;> cases b <;> rfl

/-! ### Frames -/

theorem replyFrame_eq (r : Reply) :
    replyFrame r =
      [0xB6] ++ ([BitVec.ofNat 8 (r.payload.length + 3), r.tag, r.kind ||| 0x80, statusCode r.status] ++ r.payload) ++
        le2 (crc ([BitVec.ofNat 8 (r.payload.length + 3), r.tag, r.kind ||| 0x80, statusCode r.status] ++
          r.payload)).toNat := rfl

/-- Status codes run from 0 in the order of R204. -/
theorem exists_statusCode (st : Status) :
    ∃ code : Nat,
      ([.ok, .full, .duplicateTag, .unknownKind, .badArgument, .notReady, .notCached, .isProtected, .inUse, .notFound,
        .unknownProfile, .tableFull, .busFault, .noResponse, .writeTimeout, .mismatch, .removed, .cancelled, .tooLate,
        .aborted, .stale, .failed] : List Status)[code]? = some st ∧ statusCode st = BitVec.ofNat 8 code := by
  refine ⟨(statusCode st).toNat, ?_, by simp⟩
  cases st <;> rfl

end Sys2Proof.Machine
end

section
/-! The views of a slot byte by byte (R175, R176, R206): each field of a view as the bytes of the image it stands for. -/

namespace Sys2Proof.Machine

/-- Bytes of an image from an offset on. -/
def imageRun (img : List Byte) (off len : Nat) : List Byte := (List.range len).map fun i => img.getD (off + i) 0

theorem window_eq_imageRun {img : List Byte} (hlen : img.length = 256) {off len : Nat} (h : off + len ≤ 256) :
    window img off len = imageRun img off len := window_eq_map_range img off len (hlen ▸ h)

theorem le2_imageWord (img : List Byte) (off : Nat) : le2 (imageWord img off) = imageRun img off 2 := le2_ofLe2 _ _

/-- The byte a code stands for, 0xFF for a code that stands for none. -/
def codedByte (code : Nat) (bytes : List Byte) : Byte := bytes.getD code 0xFF

/-! ### SUMMARY -/

theorem classByte_eq (img : List Byte) :
    ((modClass img).map classCode).getD 0xFF = codedByte (imageByte img 0x03).toNat [0, 1] := by
  rw [modClass_eq]
  match (imageByte img 0x03).toNat with
  | 0 | 1 => rfl
  | _ + 2 => simp [codedByte]

theorem widthByte_eq (img : List Byte) :
    widthByte (dataWidth img) = codedByte ((imageByte img 0x04).toNat % 4) [32, 64, 72] := by
  rw [dataWidth_eq]
  match (imageByte img 0x04).toNat % 4 with
  | 0 | 1 | 2 => rfl
  | _ + 3 => simp [codedByte, widthByte]

theorem rankByte_eq (img : List Byte) :
    ((rankCount img).map byte).getD 0xFF = codedByte ((imageByte img 0x04).toNat / 4 % 4) [1, 2, 4] := by
  rw [rankCount, show bitsOf (imageByte img 0x04) 2 2 = (imageByte img 0x04).toNat / 4 % 4 from rfl]
  match (imageByte img 0x04).toNat / 4 % 4 with
  | 0 | 1 | 2 => rfl
  | _ + 3 => simp [codedByte]

theorem summaryDecoded_eq (img : List Byte) :
    summaryDecoded img =
      [imageByte img 0x02, codedByte (imageByte img 0x03).toNat [0, 1],
        codedByte ((imageByte img 0x04).toNat % 4) [32, 64, 72], codedByte ((imageByte img 0x04).toNat / 4 % 4) [1, 2, 4],
        byte ((imageByte img 0x01).toNat / 16), byte ((imageByte img 0x01).toNat % 16)] := by
  rw [summaryDecoded, classByte_eq, widthByte_eq, rankByte_eq, majorRevision, minorRevision, bitsOf_high_nibble,
    bitsOf_low_nibble]

/-! ### FAULTS -/

theorem faultsView_eq (r : Slot) (img : List Byte) :
    faultsView r img =
      [byte r.faults.length, boolByte r.more, boolByte (decide (128 ≤ (imageByte img 0x00).toNat))] ++
        imageRun img 0xB0 2 ++
        le2 (crc (img.take (if 128 ≤ (imageByte img 0x00).toNat then 176 else 144))).toNat ++
        r.faults.flatMap fun f => [faultCode f, faultDetail f] := by
  have hlength : coveredLength img = if 128 ≤ (imageByte img 0x00).toNat then 176 else 144 := by
    simp only [coveredLength, identityCovered_eq, decide_eq_true_eq]
  rw [faultsView, identityCovered_eq, storedCheck, le2_imageWord, computedCheck, hlength]

/-! ### TIMINGS -/

theorem leSigned4_eq (i : Int) : leSigned4 i = le4 (BitVec.ofInt 32 i).toNat := by
  rw [leSigned4, BitVec.toNat_ofInt]
  rfl

/-- The stored bytes of a time field: the coarse value, and the fine byte where there is one. -/
def storedTime (img : List Byte) (p : Param) : List Byte :=
  (if coarseIsByte p then [byte (coarse img p)] else le2 (coarse img p)) ++
    match fineOffset p with
    | some off => [imageByte img off]
    | none => []

theorem timeField_eq (img : List Byte) (g : Nat) (p : Param) :
    timeField img g p = storedTime img p ++ le4 (BitVec.ofInt 32 (effectiveTime img g p)).toNat := by
  rw [timeField, leSigned4_eq]
  rfl

/-- The stored bytes of the twelve time fields stand where R11 has them. -/
theorem storedTime_eq (img : List Byte) :
    timeParams.map (fun p => (p, storedTime img p)) =
      [(.fper, imageRun img 0x06 3), (.sper, imageRun img 0x09 2), (.acc, imageRun img 0x14 3),
        (.opn, imageRun img 0x17 3), (.cls, imageRun img 0x1A 3), (.hld, imageRun img 0x1D 2),
        (.cyc, imageRun img 0x1F 3), (.rfr, imageRun img 0x22 2), (.trn, imageRun img 0x24 1),
        (.rcl, imageRun img 0x25 1), (.wrc, imageRun img 0x26 1), (.win, imageRun img 0x27 2)] := by
  have hword (off : Nat) (fine : List Byte) : le2 (imageWord img off) ++ fine = imageRun img off 2 ++ fine := by
    rw [le2_imageWord]
  simp only [timeParams, List.map_cons, List.map_nil, storedTime, coarseIsByte, coarse, fineOffset, Bool.false_eq_true,
    if_true, if_false, byte_toNat, hword]
  rfl

theorem timeOf_times {img : List Byte} {g : Nat} (hg : grain img = some g) :
    ∃ t, times img = some t ∧ ∀ p ∈ timeParams, timeOf t p = effectiveTime img g p := by
  simp only [times, hg]
  refine ⟨_, rfl, fun p hp => ?_⟩
  simp only [timeParams, List.mem_cons, List.not_mem_nil, or_false] at hp
  rcases hp with rfl | rfl | rfl | rfl | rfl | rfl | rfl | rfl | rfl | rfl | rfl | rfl <;> rfl

/-- The time block: each field's stored bytes, then its effective time. -/
def timeBytes (img : List Byte) : List Byte :=
  match times img with
  | none => []
  | some t => (timeParams.map fun p => (p, storedTime img p)).flatMap fun f =>
      f.2 ++ le4 (BitVec.ofInt 32 (timeOf t f.1)).toNat

theorem timeBlock_eq (img : List Byte) : timeBlock img = timeBytes img := by
  unfold timeBlock timeBytes
  cases hg : grain img with
  | none => simp [times, hg]
  | some g =>
    obtain ⟨t, ht, htime⟩ := timeOf_times hg
    rw [ht]
    simp only [List.flatMap_map]
    refine List.flatMap_congr fun p hp => ?_
    rw [timeField_eq, htime p hp]

theorem grainByte_eq (img : List Byte) :
    grainByte img =
      if (imageByte img 0x05).toNat = 0 then 2 else if (imageByte img 0x05).toNat = 1 then 5 else 0 := by
  unfold grainByte grain
  match (imageByte img 0x05).toNat with
  | 0 | 1 => rfl
  | _ + 2 => simp [byte]

theorem overrideOf_isSome (os : List Override) (p : Param) :
    (overrideOf os p).isSome = os.any fun o => o.param == p := by
  rw [overrideOf, Option.isSome_map, Bool.eq_iff_iff, List.find?_isSome, List.any_eq_true]

/-- The mask of the overridden parameters, bit by bit. -/
theorem overrideMask_eq (os : List Override) :
    overrideMask os =
      ((List.range 10).map fun i =>
        if (os.any fun o => overridableParams[i]? == some o.param) = true then 2 ^ i else 0).sum := by
  unfold overrideMask
  refine congrArg List.sum (List.map_congr_left fun i hi => ?_)
  have hi : i < overridableParams.length := List.mem_range.mp hi
  rw [List.getElem?_eq_getElem hi]
  simp only [overrideOf_isSome]
  refine if_congr (iff_of_eq (congrArg (· = true) (List.any_congr rfl fun o => ?_))) rfl rfl
  exact BEq.comm

theorem overrideValues_eq (os : List Override) :
    overrideValues os =
      overridableParams.flatMap fun q => ((os.find? fun o => o.param == q).map fun o => le3 o.value).getD [] := by
  refine List.flatMap_congr fun q _ => ?_
  rw [overrideOf]
  cases os.find? fun o => o.param == q <;> rfl

theorem thermalByte_eq (img : List Byte) :
    (boolByte (extRange img) ||| (boolByte (extNative img) <<< 1)) = byte ((imageByte img 0x2B).toNat % 4) := by
  rw [boolByte_or_shift, extRange_eq, extNative_eq]
  generalize (imageByte img 0x2B).toNat = x
  have hx : x % 4 = x % 2 + 2 * (x / 2 % 2) := by omega
  rw [hx]
  rcases Nat.mod_two_eq_zero_or_one x with hlow | hlow <;>
    rcases Nat.mod_two_eq_zero_or_one (x / 2) with hhigh | hhigh <;> rw [hlow, hhigh] <;> rfl

theorem budgetBytes_eq (img : List Byte) :
    budgetBytes (budget img) =
      if (imageByte img 0x2C).toNat % 16 = 0 then [0, 0, 0]
      else if (imageByte img 0x2C).toNat % 16 = 15 then [2, 0, 0]
      else if (imageByte img 0x2C).toNat % 16 ≤ 9 ∧ (imageByte img 0x2C).toNat / 16 % 4 ≤ 2 then
        [1, byte ((imageByte img 0x2C).toNat % 16), codedByte ((imageByte img 0x2C).toNat / 16 % 4) [1, 2, 4]]
      else [3, 0, 0] := by
  rw [budget_eq]
  split_ifs with huntested hunlimited hnumeric
  · rfl
  · rfl
  · have hcount : (imageByte img 0x2C).toNat % 16 * 100000 / 100000 = (imageByte img 0x2C).toNat % 16 :=
      Nat.mul_div_cancel _ (by decide)
    have hwindow := hnumeric.2
    rw [budgetBytes, hcount]
    generalize (imageByte img 0x2C).toNat / 16 % 4 = code at hwindow ⊢
    interval_cases code <;> rfl
  · rfl

theorem timingsView_eq (r : Slot) {img : List Byte} (hlen : img.length = 256) :
    timingsView r img =
      [if (imageByte img 0x05).toNat = 0 then 2 else if (imageByte img 0x05).toNat = 1 then 5 else 0] ++ timeBytes img ++
        le2 ((List.range 10).map fun i =>
          if (r.overrides.any fun o => overridableParams[i]? == some o.param) = true then 2 ^ i else 0).sum ++
        (overridableParams.flatMap fun q =>
          ((r.overrides.find? fun o => o.param == q).map fun o => le3 o.value).getD []) ++
        imageRun img 0x0B 9 ++ imageRun img 0x29 2 ++ le4 (imageWord img 0x29 * 50000) ++
        [byte ((imageByte img 0x2B).toNat % 4)] ++ budgetBytes (budget img) := by
  have hlatencies : imageRun img 0x0B 9 = [imageByte img 0x0B] ++ imageRun img 0x0C 8 := rfl
  rw [timingsView, grainByte_eq, timeBlock_eq, overrideMask_eq, overrideValues_eq, window_eq_imageRun hlen (by decide),
    refreshBase, le2_imageWord, thermalByte_eq, hlatencies, ← List.append_assoc]

/-! ### CLASS -/

theorem driveByte_eq (code : Nat) : driveByte (driveLevel code) = codedByte code [0, 1, 2] := by
  match code with
  | 0 | 1 | 2 => rfl
  | _ + 3 => simp [driveLevel, codedByte, driveByte]

theorem classView_eq (img : List Byte) :
    classView img =
      imageByte img 0x03 ::
        if (imageByte img 0x03).toNat = 0 then
          [imageByte img 0x50, imageByte img 0x51, byte ((imageByte img 0x52).toNat % 2)]
        else if (imageByte img 0x03).toNat = 1 then
          imageRun img 0x50 6 ++
            [codedByte ((imageByte img 0x56).toNat % 4) [0, 1, 2], codedByte ((imageByte img 0x56).toNat / 4 % 4) [0, 1, 2],
              codedByte ((imageByte img 0x56).toNat / 16 % 4) [0, 1, 2],
              codedByte ((imageByte img 0x56).toNat / 64) [0, 1, 2]]
        else [] := by
  rw [classView, modClass_eq]
  split_ifs
  · rw [rankSwap_eq]
    rcases Nat.mod_two_eq_zero_or_one (imageByte img 0x52).toNat with h | h <;> rw [h] <;> rfl
  · simp only [drives_eq, driveByte_eq]
    rfl
  · rfl

/-! ### IDENTITY -/

theorem identityView_eq (r : Slot) {img : List Byte} (hlen : img.length = 256) :
    identityView r img =
      [byte ((imageByte img 0x90).toNat % 32)] ++ imageRun img 0x90 5 ++ imageRun img 0x95 4 ++ imageRun img 0x99 20 ++
        imageRun img 0x90 2 ++ imageRun img 0x93 6 ++ [byte r.clash.length] ++ r.clash.map slotByte := by
  have hbank : bankNumber (makerBank img) = (imageByte img 0x90).toNat % 32 := by simp [bankNumber, bitsOf, makerBank]
  have hkey : identityKey img = imageRun img 0x90 2 ++ imageRun img 0x93 6 := rfl
  rw [identityView, hbank, partText, window_eq_imageRun hlen (by decide), window_eq_imageRun hlen (by decide), hkey]
  simp only [List.append_assoc]
  rfl

end Sys2Proof.Machine
end

section
/-! The views and records put together as R206, R207 and R151 order them. -/

namespace Sys2Proof.Machine

theorem summaryView_of_none {s : State} {n : SlotNo} (h : (s.slots.get n).image = none) :
    summaryView s n =
      [slotStateCode (s.slots.get n).state, boolByte (s.slots.get n).present] ++ le2 (s.slots.get n).gen.toNat ++
        [boolByte (scanPending s n), causeCode (s.slots.get n).cause, byte (s.slots.get n).overrides.length,
          boolByte (!(s.slots.get n).clash.isEmpty)] ++ [0, 0, 0, 0, 0, 0, 0] := by
  simp only [summaryView, h]
  rfl

theorem summaryView_of_some {s : State} {n : SlotNo} {c : ImageCopy} (h : (s.slots.get n).image = some c) :
    summaryView s n =
      [slotStateCode (s.slots.get n).state, boolByte (s.slots.get n).present] ++ le2 (s.slots.get n).gen.toNat ++
        [boolByte (scanPending s n), causeCode (s.slots.get n).cause, byte (s.slots.get n).overrides.length,
          boolByte (!(s.slots.get n).clash.isEmpty)] ++ 1 :: summaryDecoded c.bytes := by
  simp only [summaryView, h]
  rfl

/-- Settles O43: view by view and record by record. -/
theorem replyBytes : Obligations.ReplyBytes := by
  refine ⟨fun n => ⟨rfl, rfl, rfl⟩, paramCode_of_getElem?, slotStateCode_of_getElem?, scanPending_iff, fun s n => ?_,
    fun p => ?_, fun f => ?_, fun x => ?_, fun r => ?_⟩
  · intro r bit start
    have hstart : [slotStateCode r.state, boolByte r.present] ++ le2 r.gen.toNat ++
        [boolByte (scanPending s n), causeCode r.cause, byte r.overrides.length, boolByte (!r.clash.isEmpty)] = start := by
      cases hc : r.cause with
      | none => simp only [start, hc]; rfl
      | some c => cases c <;> simp only [start, hc] <;> rfl
    refine ⟨rfl, fun hnone => ⟨?_, fun v hv => ?_⟩, fun c hc hlen => ?_⟩
    · rw [← hstart]
      exact congrArg some (summaryView_of_none hnone)
    · simp only [List.mem_cons, List.not_mem_nil, or_false] at hv
      rcases hv with rfl | rfl | rfl | rfl <;> exact congrArg (Option.map _) hnone
    · have hview (view : List Byte → List Byte) : (r.image.map fun c => view c.bytes) = some (view c.bytes) :=
        congrArg (Option.map _) hc
      intro img b x run coded stored overridable
      refine ⟨?_, (hview (faultsView r)).trans ?_, (hview (timingsView r)).trans ?_, (hview classView).trans ?_,
        (hview (identityView r)).trans ?_⟩
      · rw [← hstart]
        refine congrArg some ((summaryView_of_some hc).trans ?_)
        rw [summaryDecoded_eq]
        rfl
      · rw [faultsView_eq]
        refine congrArg some (congrArg₂ (· ++ ·) rfl (List.flatMap_congr fun f _ => ?_))
        cases f with
        | driveLevel g => cases g <;> rfl
        | makerParity m => cases m <;> rfl
        | dateBcd d => cases d <;> rfl
        | _ => rfl
      · rw [timingsView_eq r hlen, budgetBytes_eq, timeBytes, storedTime_eq]
        rfl
      · rw [classView_eq]
        rfl
      · rw [identityView_eq r hlen]
        rfl
  · rw [resultPayload, boolByte_or_shift]
    refine congrArg₂ (· ++ ·) ?_ (List.flatMap_congr fun o _ => ?_)
    · simp only [nineList, List.flatMap_cons, List.flatMap_nil, List.append_nil, List.append_assoc]
      cases p.budget <;> cases p.cls <;> rfl
    · obtain ⟨m, swap | d⟩ := o <;> rfl
  · obtain ⟨reason, slot, param⟩ := f
    cases reason <;> cases slot <;> cases param <;> rfl
  · obtain ⟨seq, body⟩ := x
    cases body with
    | linkFrameDropped cause => cases cause <;> rfl
    | _ => rfl
  · obtain ⟨code, hcode, hstatus⟩ := exists_statusCode r.status
    refine ⟨code, hcode, ?_⟩
    intro body
    rw [replyFrame_eq, hstatus]

end Sys2Proof.Machine
end

section
/-! The job in flight (R67, R72, R74, R77, R78, R85): what keeps its arguments, progress and mark right, operation by
operation. -/

namespace Sys2Proof.Machine

/-! ### What the invariant reads -/

theorem flightInv_none {s : State} (h : s.inFlight = none) : FlightInv s := fun _ hf => nomatch h.symm.trans hf

theorem flightInv_some {s : State} {f : InFlight} (hf : s.inFlight = some f) (h : FlightOk s f) : FlightInv s :=
  fun _ hg => Option.some.inj (hf.symm.trans hg) ▸ h

/-- An unmarked job needs its own module alone. -/
theorem FlightOk.mono {s t : State} {f : InFlight} (h : FlightOk s f)
    (hst : ∀ n, slotOfWork f.job.work = some n → occupied (s.slots.get n).state = true →
      occupied (t.slots.get n).state = true) : FlightOk t f := by
  obtain ⟨hwork, hprogress, hfailed, hpresence, htags, hclaim, hmark, hslot⟩ := h
  exact ⟨hwork, hprogress, hfailed, hpresence, htags, hclaim, hmark,
    fun n hn hunmarked hworks => hst n hn (hslot n hn hunmarked hworks)⟩

/-- The same job in flight, its module still there. -/
theorem FlightInv.congr {s t : State} (h : FlightInv s) (hflight : t.inFlight = s.inFlight)
    (hst : ∀ n, occupied (s.slots.get n).state = true → occupied (t.slots.get n).state = true) : FlightInv t :=
  fun f hf => (h f (hflight ▸ hf)).mono fun n _ => hst n

theorem FlightInv.alike {s t : State} (h : FlightInv s) (ha : BusAlike s t) : FlightInv t := h.congr ha.flight ha.occupied

/-- The queue and the bus state take no part. -/
theorem FlightInv.of_eq {s t : State} (h : FlightInv s) (hflight : t.inFlight = s.inFlight) (hslots : t.slots = s.slots) :
    FlightInv t := h.congr hflight fun _ hn => hslots ▸ hn

/-! ### Kinds and marks -/

theorem isScan_congr {j k : Job} (h : j.work = k.work) : isScan j = isScan k := by rw [isScan, isScan, h]

theorem isReading_congr {j k : Job} (h : j.work = k.work) : isReading j = isReading k := by rw [isReading, isReading, h]

theorem FlightOk.unmarked_of_activity {s : State} {f : InFlight} (h : FlightOk s f) (ha : f.activity ≠ .transaction) :
    f.stopMark = false := by
  obtain ⟨_, _, _, _, _, _, hmark, _⟩ := h
  refine Bool.eq_false_iff.mpr fun hmarked => ?_
  obtain ⟨_, htransaction, _⟩ := hmark hmarked
  exact ha htransaction

theorem FlightOk.unmarked_of_not_reading {s : State} {f : InFlight} (h : FlightOk s f) (hr : isReading f.job = false) :
    f.stopMark = false := by
  obtain ⟨_, _, _, _, _, _, hmark, _⟩ := h
  refine Bool.eq_false_iff.mpr fun hmarked => ?_
  rw [(hmark hmarked).1] at hr
  exact nomatch hr

/-! ### Progress by kind (R72 to R78) -/

/-- A SCAN or MODULE READ is in its transaction or in a retry wait. -/
theorem progressOk_reading {f : InFlight} (hr : isReading f.job = true) (h : progressOk f = true) :
    f.activity = .transaction ∨ f.activity = .retryWait := by
  rw [isReading] at hr
  rw [progressOk] at h
  cases hwork : f.job.work <;> simp_all

/-- A transaction and its retry wait are at the same progress; a data byte more acknowledged does no harm. -/
theorem progressOk_retry {f : InFlight} {g : InFlight} (hf : f.activity = .transaction ∨ f.activity = .retryWait)
    (hg : g.activity = .transaction ∨ g.activity = .retryWait) (hjob : g.job = f.job) (hbytes : g.bytesRead = f.bytesRead)
    (hphase : g.phase = f.phase) (hacked : f.dataAcked = true → g.dataAcked = true) (h : progressOk f = true) :
    progressOk g = true := by
  rw [progressOk] at h ⊢
  rw [hjob, hbytes, hphase]
  cases hwork : f.job.work with
  | scan n => rcases hf with hf | hf <;> rcases hg with hg | hg <;> simpa [hwork, hf, hg] using h
  | moduleRead n off len => rcases hg with hg | hg <;> simp [hg]
  | userWrite n off data =>
    rcases hf with hf | hf <;> rcases hg with hg | hg <;> cases hp : f.phase <;> simp_all
  | recover => rcases hf with hf | hf <;> simp [hwork, hf] at h

section Writing
variable {f : InFlight} {n : SlotNo} {off : Nat} {data : List Byte} (hwork : f.job.work = .userWrite n off data)
include hwork

/-- A USER WRITE that waits for its next poll. -/
theorem progressOk_pollWait (ha : f.activity = .pollWait) (hp : f.phase = .polling) :
    progressOk f = (f.dataAcked && decide (f.polls < 10)) := by simp [progressOk, hwork, ha, hp]

/-- A USER WRITE in a poll. -/
theorem progressOk_poll (ha : f.activity = .poll) (hp : f.phase = .polling) :
    progressOk f = (f.dataAcked && decide (1 ≤ f.polls) && decide (f.polls ≤ 10)) := by simp [progressOk, hwork, ha, hp]

/-- A USER WRITE in its read-back. -/
theorem progressOk_readBack (ha : f.activity = .transaction) (hp : f.phase = .readBack) : progressOk f = f.dataAcked := by
  simp [progressOk, hwork, ha, hp]

end Writing

/-- Only a USER WRITE polls. -/
theorem userWrite_of_poll {f : InFlight} (h : progressOk f = true) (ha : f.activity = .pollWait ∨ f.activity = .poll) :
    ∃ n off data, f.job.work = .userWrite n off data ∧ f.phase = .polling ∧ f.dataAcked = true ∧
      (f.activity = .pollWait → f.polls < 10) := by
  rw [progressOk] at h
  cases hwork : f.job.work with
  | userWrite n off data =>
    refine ⟨n, off, data, rfl, ?_⟩
    rcases ha with ha | ha <;> cases hp : f.phase <;> simp_all
  | _ => rcases ha with ha | ha <;> simp [hwork, ha] at h

/-- The job in flight goes on, unmarked as it was. -/
theorem FlightOk.progress {s : State} {f g : InFlight} (h : FlightOk s f) (hunmarked : f.stopMark = false)
    (hworks : f.activity ≠ .stopCondition) (hjob : g.job = f.job) (hmark : g.stopMark = f.stopMark)
    (hprogress : progressOk g = true) (hfailed : g.failed < 4) : FlightOk s g := by
  obtain ⟨hwork, _, _, hpresence, htags, hclaim, _, hslot⟩ := h
  rw [hunmarked] at hmark
  refine ⟨hjob ▸ hwork, hprogress, hfailed, hjob ▸ hpresence, hjob ▸ htags, fun hr _ => ?_, fun hmarked => ?_,
    fun n hn _ _ => hslot n (hjob ▸ hn) hunmarked hworks⟩
  · rw [hjob] at hr ⊢
    exact hclaim hr hunmarked
  · exact nomatch hmark.symm.trans hmarked

/-! ### Jobs start and end -/

/-- A waiting job is right as it starts. -/
theorem WaitingOk.launch {s : State} {j : Job} (h : WaitingOk s j) (fromFaulted : Bool) :
    FlightOk s (launch j fromFaulted) := by
  obtain ⟨hwork, hclaim, hpresence, htags, hslot⟩ := h
  refine ⟨hwork, ?_, Nat.zero_lt_succ 3, hpresence, fun hscan => (htags hscan).le, fun _ _ => hclaim, (fun hmark => nomatch hmark),
    fun n hn _ _ => hslot n hn⟩
  rw [progressOk, launch_job]
  cases hw : j.work <;> simp [Machine.launch, hw]

theorem FlightInv.startNext {s : State} (h : FlightInv s) (hqueue : QueueInv s) : FlightInv (startNext s) := by
  unfold Machine.startNext
  split
  next j rest _ hjobs =>
    have hj : WaitingOk s j := hqueue.1 j (hjobs ▸ List.mem_cons_self)
    exact flightInv_some (f := Machine.launch j false) rfl ((hj.launch false).mono fun _ _ => id)
  next => exact h

theorem flightInv_finishJob {s : State} (hqueue : QueueInv s) : FlightInv (finishJob s) :=
  (flightInv_none (s := { s with inFlight := none, bus := .idle }) rfl).startNext
    (hqueue.sublist (List.Sublist.refl _) fun _ _ _ _ => id)

/-- The job in flight ends after changes the bus does not see. -/
theorem BusOk.flightInv_finishJob {s t : State} (h : BusOk s) (ha : BusAlike s t) : FlightInv (finishJob t) :=
  Machine.flightInv_finishJob (h.queue.congr ha)

/-! ### Marks (R85) -/

/-- A SCAN or MODULE READ in flight that can be marked: without a presence claim, otherwise right. -/
structure Stoppable (g : InFlight) : Prop where
  reading : isReading g.job = true
  presence : g.job.presence = false
  work : workOk g.job.work = true
  progress : progressOk g = true
  failed : g.failed < 4
  tags : isScan g.job = false → g.job.tags.length ≤ 1

/-- A SCAN or MODULE READ in flight whose presence claim, and perhaps some tags, have gone. -/
theorem FlightOk.stoppable {s : State} {f : InFlight} (h : FlightOk s f) (hreading : isReading f.job = true) {j : Job}
    (hwork : j.work = f.job.work) (hpresence : j.presence = false) (htags : j.tags.length ≤ f.job.tags.length) :
    Stoppable { f with job := j } := by
  obtain ⟨hok, hprogress, hfailed, _, htags', _, _, _⟩ := h
  refine ⟨(isReading_congr hwork).trans hreading, hpresence, hwork ▸ hok, ?_, hfailed, fun hscan => ?_⟩
  · rw [isReading] at hreading
    rw [progressOk] at hprogress ⊢
    dsimp only
    rw [hwork]
    cases hw : f.job.work <;> simp_all
  · exact htags.trans (htags' ((isScan_congr hwork).symm.trans hscan))

/-- A job that is marked in a retry wait ends, and the next one starts; any other takes the mark in its transaction. -/
theorem Stoppable.markToStop {s : State} {g : InFlight} (h : Stoppable g) (hqueue : QueueInv s) :
    FlightInv (markToStop g s) := by
  unfold Machine.markToStop
  split
  next => exact flightInv_finishJob (hqueue.congr (busAlike_endTags ..))
  next hactivity =>
    have htransaction := (progressOk_reading h.reading h.progress).resolve_right hactivity
    refine flightInv_some (f := { g with stopMark := true }) rfl ?_
    exact ⟨h.work, h.progress, h.failed, (fun hpresence => nomatch h.presence.symm.trans hpresence), h.tags,
      (fun _ hmark => nomatch hmark), fun _ => ⟨h.reading, htransaction, h.presence⟩, fun _ _ hmark => nomatch hmark⟩

end Sys2Proof.Machine
end

section
/-! The events of lines and bus at the job in flight (R45, R72 to R87). -/

namespace Sys2Proof.Machine

/-! ### Lines -/

theorem busAlike_startSettling (n : SlotNo) (s : State) : BusAlike s (startSettling n s) := by
  unfold startSettling
  split
  next hst =>
    refine busAlike_setSlot (fun hoccupied => ?_) fun hreading => nomatch hreading
    rw [hst] at hoccupied
    exact nomatch hoccupied
  next => exact busAlike_refl s

/-- R46: an inserted module takes none away, and its scan starts only on an IDLE bus. -/
theorem FlightInv.insertion {s : State} (h : FlightInv s) (hs : BusOk s) {n : SlotNo} : FlightInv (insertion n s) := by
  have hinserted : occupied (insertedSlot (s.bus == .faulted) (s.slots.get n)).state = true := by
    unfold insertedSlot
    split <;> rfl
  have hstays (m : SlotNo) (hm : occupied (s.slots.get m).state = true) :
      occupied ((s.slots.set n (insertedSlot (s.bus == .faulted) (s.slots.get n))).get m).state = true := by
    rw [Eight.get_set]
    split
    next => exact hinserted
    next => exact hm
  unfold Machine.insertion
  dsimp only
  refine FlightInv.alike ?_ (busAlike_raise ..)
  generalize hr : insertedSlot (s.bus == .faulted) (s.slots.get n) = r at hinserted hstays
  have hset : FlightInv { s with slots := s.slots.set n r } := h.congr rfl hstays
  split
  next => exact hset
  next =>
    have hqueue : QueueInv { s with slots := s.slots.set n r } :=
      hs.queue.sublist (List.Sublist.refl _) fun _ _ m _ => hstays m
    refine FlightInv.startNext (hset.of_eq (by simp) (by simp)) (hqueue.enqueueScan ?_ (.inl rfl))
    rw [Eight.get_set_same]
    exact hinserted

/-! ### A removal (R48, R85 to R87) -/

/-- The job a removal of its slot stops: a SCAN loses its presence claim. -/
def unclaimed (j : Job) : Job := { j with presence := j.presence && !isScan j }

/-- A removal does not abandon what is no USER WRITE of the slot. -/
theorem abandonWrite_of_not_write {n : SlotNo} {s : State}
    (h : ∀ f, s.inFlight = some f → slotOfWork f.job.work = some n → isReading f.job = true) : abandonWrite n s = s := by
  unfold abandonWrite
  split
  next f hf =>
    split
    next m off data hwork =>
      split
      next hm =>
        have hreading := h f hf (by rw [hwork, hm]; rfl)
        rw [isReading, hwork] at hreading
        exact nomatch hreading
      next => rfl
    all_goals rfl
  next => rfl

/-- R87: a USER WRITE of the slot is abandoned. -/
theorem abandonWrite_of_write {n : SlotNo} {s : State} {f : InFlight} (hf : s.inFlight = some f)
    (hslot : slotOfWork f.job.work = some n) (hwrite : isReading f.job = false) :
    abandonWrite n s = { endTags .removed [] f.job.tags s with
      inFlight := some { f with job := { f.job with tags := [] }, activity := .stopCondition } } := by
  rw [abandonWrite, hf]
  rw [isReading] at hwrite
  cases hwork : f.job.work <;> simp_all [slotOfWork]

/-- A removal stops no job but a SCAN or MODULE READ of the slot. -/
theorem stopReading_of_not_reading {n : SlotNo} {s : State}
    (h : ∀ f, s.inFlight = some f → slotOfWork f.job.work = some n → isReading f.job = false) : stopReading n s = s := by
  unfold stopReading
  split
  next f hf =>
    have hnot (hslot : slotOfWork f.job.work = some n) (hreading : isReading f.job = true) : False :=
      nomatch (h f hf hslot).symm.trans hreading
    split
    next m hwork =>
      split
      next hm => exact (hnot (by rw [hwork, hm]; rfl) (by rw [isReading, hwork])).elim
      next => rfl
    next m off len hwork =>
      split
      next hm => exact (hnot (by rw [hwork, hm]; rfl) (by rw [isReading, hwork])).elim
      next => rfl
    all_goals rfl
  next => rfl

/-- R85, R87: a SCAN or MODULE READ of the slot is marked to stop. -/
theorem stopReading_of_reading {n : SlotNo} {s : State} {f : InFlight} (hf : s.inFlight = some f)
    (hslot : slotOfWork f.job.work = some n) (hreading : isReading f.job = true) :
    stopReading n s = markToStop { f with job := unclaimed f.job } s := by
  rw [stopReading, hf]
  rw [isReading] at hreading
  cases hwork : f.job.work with
  | scan m =>
    rw [hwork] at hslot
    have hjob : unclaimed f.job = { f.job with presence := false } := by simp [unclaimed, isScan, hwork]
    rw [hjob]
    simp only [hwork]
    exact if_pos (Option.some.inj hslot)
  | moduleRead m off len =>
    rw [hwork] at hslot
    have hjob : unclaimed f.job = f.job := by
      rw [unclaimed, show isScan f.job = false by rw [isScan, hwork], Bool.not_false, Bool.and_true]
    rw [hjob]
    simp only [hwork]
    exact if_pos (Option.some.inj hslot)
  | userWrite m off data =>
    rw [hwork] at hreading
    exact nomatch hreading
  | recover =>
    rw [hwork] at hslot
    exact nomatch hslot

theorem removalEvent_inFlight (n : SlotNo) (s : State) : (removalEvent n s).inFlight = s.inFlight := by
  simp [removalEvent]

theorem purgeJobs_inFlight (n : SlotNo) (s : State) : (purgeJobs n s).inFlight = s.inFlight := by rw [purgeJobs_frame]

/-- A removal whose slot has no job in flight. -/
theorem removal_of_other {n : SlotNo} {s : State}
    (h : ∀ f, s.inFlight = some f → slotOfWork f.job.work ≠ some n) :
    removal n s = purgeJobs n (removalEvent n s) := by
  have hother : ∀ f, (removalEvent n s).inFlight = some f → slotOfWork f.job.work ≠ some n := fun f hf =>
    h f ((removalEvent_inFlight n s).symm.trans hf)
  rw [removal, ← removalEvent, abandonWrite_of_not_write fun f hf hslot => (hother f hf hslot).elim,
    stopReading_of_not_reading fun f hf hslot => (hother f (purgeJobs_inFlight n _ ▸ hf) hslot).elim]

/-- A removal whose slot is being read. -/
theorem removal_of_reading {n : SlotNo} {s : State} {f : InFlight} (hf : s.inFlight = some f)
    (hslot : slotOfWork f.job.work = some n) (hreading : isReading f.job = true) :
    removal n s = markToStop { f with job := unclaimed f.job } (purgeJobs n (removalEvent n s)) := by
  have hflight : (removalEvent n s).inFlight = some f := (removalEvent_inFlight n s).trans hf
  rw [removal, ← removalEvent,
    abandonWrite_of_not_write fun g hg _ => Option.some.inj (hflight.symm.trans hg) ▸ hreading,
    stopReading_of_reading ((purgeJobs_inFlight n _).trans hflight) hslot hreading]

/-- A removal whose slot is being written. -/
theorem removal_of_write {n : SlotNo} {s : State} {f : InFlight} (hf : s.inFlight = some f)
    (hslot : slotOfWork f.job.work = some n) (hwrite : isReading f.job = false) :
    removal n s = purgeJobs n { endTags .removed [] f.job.tags (removalEvent n s) with
      inFlight := some { f with job := { f.job with tags := [] }, activity := .stopCondition } } := by
  rw [removal, ← removalEvent, abandonWrite_of_write ((removalEvent_inFlight n s).trans hf) hslot hwrite,
    stopReading_of_not_reading]
  intro g hg _
  rw [purgeJobs_inFlight] at hg
  exact Option.some.inj hg ▸ hwrite

/-- The job in flight is for another slot or none, or reads the slot, or writes it. -/
theorem flight_cases (n : SlotNo) (s : State) :
    (∀ f, s.inFlight = some f → slotOfWork f.job.work ≠ some n) ∨
      ∃ f, s.inFlight = some f ∧ slotOfWork f.job.work = some n ∧ (isReading f.job = true ∨ isReading f.job = false) := by
  by_cases h : ∃ f, s.inFlight = some f ∧ slotOfWork f.job.work = some n
  · obtain ⟨f, hf, hslot⟩ := h
    exact .inr ⟨f, hf, hslot, (Bool.eq_false_or_eq_true _)⟩
  · exact .inl fun f hf hslot => h ⟨f, hf, hslot⟩

/-- R87: an abandoned USER WRITE goes on to its stop condition without a claim. -/
theorem FlightOk.abandoned {s t : State} {f : InFlight} (h : FlightOk s f) {n : SlotNo}
    (hslot : slotOfWork f.job.work = some n) (hwrite : isReading f.job = false) :
    FlightOk t { f with job := { f.job with tags := [] }, activity := .stopCondition } := by
  have hunmarked := h.unmarked_of_not_reading hwrite
  have hstill : isReading { f.job with tags := [] } = false := hwrite
  obtain ⟨hwork, _, hfailed, hpresence, _, _, _, _⟩ := h
  refine ⟨hwork, ?_, hfailed, hpresence, fun _ => Nat.zero_le 1, fun hreading => ?_, fun hmark => ?_,
    fun _ _ _ hworks => absurd rfl hworks⟩
  · rw [isReading] at hwrite
    rw [progressOk]
    cases hw : f.job.work <;> simp_all [slotOfWork]
  · exact (Bool.false_ne_true (hstill.symm.trans hreading)).elim
  · exact (Bool.false_ne_true (hunmarked.symm.trans hmark)).elim

theorem FlightInv.removal {s : State} (h : FlightInv s) (hs : BusOk s) (n : SlotNo) : FlightInv (removal n s) := by
  have hqueue := (hs.purgeJobs n).queue
  rcases flight_cases n s with hother | ⟨f, hf, hslot, hreading | hwrite⟩
  · rw [removal_of_other hother]
    intro f hf
    rw [purgeJobs_inFlight, removalEvent_inFlight] at hf
    refine (h f hf).mono fun m hm hst => ?_
    have hne : m ≠ n := fun hmn => hother f hf (hmn ▸ hm)
    rw [purgeJobs_frame, removalEvent_state_other s hne]
    exact hst
  · have hok := h f hf
    rw [abandonWrite_of_not_write fun g hg _ =>
      Option.some.inj (hf.symm.trans ((removalEvent_inFlight n s).symm.trans hg)) ▸ hreading] at hqueue
    rw [removal_of_reading hf hslot hreading]
    obtain ⟨_, _, _, hpresence, _, _, _, _⟩ := id hok
    refine (hok.stoppable (j := unclaimed f.job) hreading rfl ?_ le_rfl).markToStop hqueue
    cases hp : f.job.presence with
    | false => simp [unclaimed, hp]
    | true => simp [unclaimed, hpresence hp]
  · rw [removal_of_write hf hslot hwrite]
    exact flightInv_some (purgeJobs_inFlight ..) ((h f hf).abandoned hslot hwrite)

theorem FlightInv.presenceHigh {s : State} (h : FlightInv s) (hs : BusOk s) (n : SlotNo) :
    FlightInv (presenceHigh n { s with pres := s.pres.set n true }) := by
  have hhigh : BusAlike s { s with pres := s.pres.set n true } := busAlike_of_eq rfl rfl rfl rfl rfl
  cases hst : occupied (s.slots.get n).state with
  | true =>
    rw [presenceHigh_of_occupied (by exact hst)]
    exact (h.alike hhigh).removal (hs.congr hhigh) n
  | false =>
    rcases occupied_eq_false_iff.mp hst with hempty | hsettling
    · rw [presenceHigh_of_empty (by exact hempty)]
      exact h.alike hhigh
    · rw [presenceHigh_of_settling (by exact hsettling)]
      refine (h.alike hhigh).alike (busAlike_setSlot (fun hoccupied => ?_) fun hreading => nomatch hreading)
      exact absurd (hst.symm.trans hoccupied) (by simp)

/-! ### Transactions (R72 to R76) -/

theorem BusOk.flightInv_endStopped {s : State} (h : BusOk s) (f : InFlight) :
    FlightInv (Machine.endStopped f s) :=
  h.flightInv_finishJob (busAlike_endTags ..)

/-- A failed transaction is tried again, or its job ends. -/
theorem FlightInv.transactionEnd {s : State} (h : FlightInv s) (hs : BusOk s) {f : InFlight} (hf : s.inFlight = some f)
    (hactivity : f.activity = .transaction) (acked : Bool) : FlightInv (transactionEnd (noteAcked acked f) s) := by
  unfold Machine.transactionEnd
  split
  next => exact hs.flightInv_endStopped _
  next hmark =>
    split
    next hretry =>
      have hok := h f hf
      obtain ⟨_, hprogress, _⟩ := id hok
      refine flightInv_some rfl (FlightOk.progress (hok.mono fun _ _ => id) ?_ ?_ rfl rfl ?_ hretry)
      · exact Bool.eq_false_iff.mpr hmark
      · rw [hactivity]
        exact fun h => nomatch h
      · refine progressOk_retry (.inl hactivity) (.inr rfl) rfl rfl rfl (fun hacked => ?_) hprogress
        simp [noteAcked, hacked]
    next =>
      obtain ⟨halike, _⟩ := hs.deliverFailure (g := noteAcked acked f) hf rfl .noResponse .noResponse
      exact hs.flightInv_finishJob halike

/-- R73: a stuck bus leaves no job in flight. -/
theorem flightInv_stuckBus (f : InFlight) (s : State) (pulses : Nat) :
    FlightInv { stuckFailure f s with inFlight := none, bus := .recovering, pulses := pulses } := flightInv_none rfl

/-- The retry wait ends (R72). -/
theorem FlightInv.retried {s : State} (h : FlightInv s) {f : InFlight} (hf : s.inFlight = some f)
    (hactivity : f.activity = .retryWait) :
    FlightInv { s with inFlight := some { f with activity := .transaction } } := by
  have hok := h f hf
  obtain ⟨_, hprogress, hfailed, _⟩ := id hok
  refine flightInv_some rfl (FlightOk.progress (hok.mono fun _ _ => id) (hok.unmarked_of_activity ?_) ?_ rfl rfl ?_ hfailed)
  · rw [hactivity]
    exact fun h => nomatch h
  · rw [hactivity]
    exact fun h => nomatch h
  · exact progressOk_retry (.inr hactivity) (.inl rfl) rfl rfl rfl id hprogress

/-- A transfer that is no segment ends none (R74; log 3). -/
theorem exec_segmentDone_of_length_ne {bytes : List Byte} (s : State) (h : bytes.length ≠ 16) :
    exec (.segmentDone bytes) s = .next s := by
  rw [exec, execSegmentDone]
  split
  next =>
    split
    next => rw [if_neg fun hsegment => h hsegment.2]
    all_goals rfl
  next => rfl

/-- R74, R75: a segment is added, or the scan ends. -/
theorem FlightInv.segmentEnd {s : State} (h : FlightInv s) (hs : BusOk s) {f : InFlight} {n : SlotNo}
    (hf : s.inFlight = some f) (hwork : f.job.work = .scan n) (hactivity : f.activity = .transaction) {bytes : List Byte}
    (hbytes : bytes.length = 16) : FlightInv (segmentEnd n f bytes s) := by
  unfold Machine.segmentEnd
  dsimp only
  split
  next => exact hs.flightInv_endStopped f
  next hmark =>
    split
    next => exact hs.flightInv_finishJob ((busAlike_completeScan ..).trans (busAlike_endTags ..))
    next hmore =>
      have hok := h f hf
      obtain ⟨_, hprogress, _⟩ := id hok
      refine flightInv_some rfl (FlightOk.progress (hok.mono fun _ _ => id) ?_ ?_ rfl rfl ?_ (Nat.zero_lt_succ 3))
      · exact Bool.eq_false_iff.mpr hmark
      · rw [hactivity]
        exact fun h => nomatch h
      · simp only [progressOk, hwork, hactivity, beq_self_eq_true, Bool.true_or, Bool.true_and, Bool.and_eq_true,
          beq_iff_eq, decide_eq_true_eq, List.length_append, hbytes] at hprogress hmore ⊢
        omega

/-! ### USER WRITE (R77 to R79) -/

/-- R77: the page write ends well. -/
theorem FlightInv.pageWritten {s : State} (h : FlightInv s) {f : InFlight} (hf : s.inFlight = some f)
    (hwrite : inPageWrite f = true) : FlightInv { s with inFlight := some { f with
      phase := .polling, activity := .pollWait, failed := 0, dataAcked := true, polls := 0 } } := by
  have hok := h f hf
  rw [inPageWrite] at hwrite
  cases hwork : f.job.work with
  | userWrite n off data =>
    simp only [hwork, Bool.and_eq_true, beq_iff_eq] at hwrite
    refine flightInv_some rfl (FlightOk.progress (hok.mono fun _ _ => id) (hok.unmarked_of_not_reading ?_) ?_ rfl rfl ?_
      (Nat.zero_lt_succ 3))
    · rw [isReading, hwork]
    · rw [hwrite.1]
      exact fun h => nomatch h
    · exact (progressOk_pollWait (by exact hwork) rfl rfl).trans rfl
  | _ => simp [hwork] at hwrite

/-- R78: a poll is sent. -/
theorem FlightInv.polled {s : State} (h : FlightInv s) {f : InFlight} (hf : s.inFlight = some f)
    (hactivity : f.activity = .pollWait) :
    FlightInv { s with inFlight := some { f with activity := .poll, polls := f.polls + 1 } } := by
  have hok := h f hf
  obtain ⟨_, hprogress, hfailed, _⟩ := id hok
  obtain ⟨n, off, data, hwork, hphase, hacked, hpolls⟩ := userWrite_of_poll hprogress (.inl hactivity)
  have hten := hpolls hactivity
  refine flightInv_some rfl (FlightOk.progress (hok.mono fun _ _ => id) (hok.unmarked_of_activity ?_) ?_ rfl rfl ?_ hfailed)
  · rw [hactivity]
    exact fun h => nomatch h
  · rw [hactivity]
    exact fun h => nomatch h
  · rw [progressOk_poll (f := { f with activity := .poll, polls := f.polls + 1 }) hwork rfl hphase]
    simp only [hacked, Bool.true_and, Bool.and_eq_true, decide_eq_true_eq]
    omega

/-- R78, R79: a poll ends in the read-back, in the wait for the next one, or with the job. -/
theorem FlightInv.pollEnd {s : State} (h : FlightInv s) (hs : BusOk s) {f : InFlight} {n : SlotNo} {off : Nat}
    {data : List Byte} (hf : s.inFlight = some f) (hwork : f.job.work = .userWrite n off data)
    (hactivity : f.activity = .poll) (acked : Bool) : FlightInv (pollEnd f n off acked s) := by
  have hok := h f hf
  obtain ⟨_, hprogress, hfailed, _⟩ := id hok
  obtain ⟨_, _, _, _, hphase, hdata, _⟩ := userWrite_of_poll hprogress (.inr hactivity)
  have hunmarked := hok.unmarked_of_activity (by rw [hactivity]; exact fun h => nomatch h)
  have hworks : f.activity ≠ .stopCondition := by rw [hactivity]; exact fun h => nomatch h
  unfold Machine.pollEnd
  split_ifs with _ hpolls
  · refine flightInv_some rfl (FlightOk.progress (hok.mono fun _ _ => id) hunmarked hworks rfl rfl ?_ (Nat.zero_lt_succ 3))
    exact (progressOk_readBack (by exact hwork) rfl rfl).trans hdata
  · refine flightInv_some rfl (FlightOk.progress (hok.mono fun _ _ => id) hunmarked hworks rfl rfl ?_ hfailed)
    rw [progressOk_pollWait (f := { f with activity := .pollWait }) hwork rfl hphase]
    simp only [hdata, Bool.true_and, decide_eq_true_eq]
    exact hpolls
  · exact hs.flightInv_finishJob ((busAlike_changeCopy ..).trans (busAlike_endTags ..))

theorem BusOk.flightInv_readBackEnd {s : State} (h : BusOk s) (f : InFlight) (n : SlotNo) (off : Nat)
    (data page : List Byte) : FlightInv (Machine.readBackEnd f n off data page s) := by
  unfold Machine.readBackEnd
  split
  next => exact h.flightInv_finishJob ((busAlike_changeCopy ..).trans (busAlike_endTags ..))
  next => exact h.flightInv_finishJob ((busAlike_changeCopy ..).trans (busAlike_endTags ..))

/-! ### Recoveries (R80 to R84) -/

theorem enterFaulted_inFlight (announce : Bool) (s : State) : (enterFaulted announce s).inFlight = none := by
  unfold enterFaulted
  dsimp only
  split <;> simp

/-- The rescans are of slots with a module. -/
theorem QueueInv.recoveryRescans {s : State} (h : QueueInv s) : QueueInv (recoveryRescans s) := by
  have hstays (n : SlotNo) (hn : occupied (s.slots.get n).state = true) :
      occupied ((rereadSlots s.slots).get n).state = true := by
    cases hlost : lostToBus (s.slots.get n) with
    | true => rw [rereadSlots_get_of_lost hlost]; rfl
    | false => rwa [rereadSlots_get_of_not_lost hlost]
  have hqueue : QueueInv { s with slots := rereadSlots s.slots } :=
    h.sublist (List.Sublist.refl _) fun _ _ n _ => hstays n
  rw [recoveryRescans_eq]
  refine hqueue.demandScans fun n hn => ?_
  rw [show ({ s with slots := rereadSlots s.slots } : State).slots = rereadSlots s.slots from rfl,
    rereadSlots_get_of_lost (List.mem_filter.mp hn).2]
  rfl

theorem BusOk.flightInv_recoveryOutcome {s : State} (h : BusOk s) (free : Bool) :
    FlightInv (Machine.recoveryOutcome free s) := by
  unfold Machine.recoveryOutcome
  split
  next f _ =>
    unfold recoverEnd
    split
    · exact h.flightInv_finishJob (busAlike_endTags ..)
    · exact flightInv_none (enterFaulted_inFlight ..)
    · refine FlightInv.startNext (flightInv_none ?_) (QueueInv.recoveryRescans ?_)
      · rw [recoveryRescans_eq, demandScans_frame]
        simp
      · exact h.queue.sublist (by simp) fun _ _ n _ hn => by simpa using hn
    · exact flightInv_none (enterFaulted_inFlight ..)
  next hf =>
    split
    next =>
      refine FlightInv.startNext (flightInv_none hf) ?_
      exact h.queue.sublist (List.Sublist.refl _) fun _ _ _ _ => id
    next => exact flightInv_none (enterFaulted_inFlight ..)

end Sys2Proof.Machine
end

section
/-! Frames at the job in flight (R69, R77, R84, R88 to R91), and the steps: every one keeps the job in flight right. -/

namespace Sys2Proof.Machine

/-! ### Requests that make jobs -/

/-- A job with one tag joins the end of the queue. -/
theorem FlightInv.takeJob {s : State} (h : FlightInv s) (hs : BusOk s) (tag kind : Byte) {w : JobWork}
    (hwork : workOk w = true) (hscan : ∀ n, w ≠ .scan n)
    (hst : ∀ n, slotOfWork w = some n → occupied (s.slots.get n).state = true) : FlightInv (takeJob tag kind w s) := by
  have hnoscan : isScan { work := w, presence := false, tags := [tag] } = false :=
    Bool.eq_false_iff.mpr fun hs => (isScan_iff.mp hs).elim hscan
  have hjob : WaitingOk (joinInbox tag kind .busJob s) { work := w, presence := false, tags := [tag] } :=
    ⟨hwork, rfl, (fun hpresence => nomatch hpresence), fun _ => rfl, hst⟩
  have hqueue : QueueInv (joinInbox tag kind .busJob s) := hs.queue.congr (busAlike_of_eq rfl rfl rfl rfl rfl)
  exact FlightInv.startNext (h.of_eq rfl rfl) (hqueue.append hjob hnoscan)

theorem FlightInv.ownReadModule {s : State} (h : FlightInv s) (hs : BusOk s) (tag : Byte) (payload : List Byte) :
    FlightInv (ownReadModule tag payload s) := by
  unfold Machine.ownReadModule
  split
  next => exact h.alike (busAlike_answer ..)
  next n off len harg =>
    split_ifs with hst
    · exact h.alike (busAlike_answer ..)
    · exact h.alike (busAlike_answer ..)
    · refine h.takeJob hs _ _ (workOk_of_rangeArg harg) (fun m => fun h => nomatch h) fun m hm => ?_
      obtain rfl : n = m := Option.some.inj hm
      simpa using hst

/-- What WRITE USER accepts is a write within one page of the user area (R77, R179). -/
theorem workOk_of_writeArg {p : List Byte} {n : SlotNo} {off : Nat} {data : List Byte}
    (harg : writeArg p = some (n, off, data)) (hoff : ¬ off < 208) (hfits : ¬ (!writeFits off data.length) = true) :
    workOk (.userWrite n off data) = true := by
  obtain ⟨hlow, hhigh⟩ := length_of_writeArg harg
  simp only [workOk, Bool.and_eq_true, decide_eq_true_eq]
  exact ⟨⟨⟨not_lt.mp hoff, hlow⟩, hhigh⟩, by simpa using hfits⟩

theorem FlightInv.ownWriteUser {s : State} (h : FlightInv s) (hs : BusOk s) (tag : Byte) (payload : List Byte) :
    FlightInv (ownWriteUser tag payload s) := by
  unfold Machine.ownWriteUser
  split
  next => exact h.alike (busAlike_answer ..)
  next n off data harg =>
    split_ifs with hoff hfits hst
    · exact h.alike (busAlike_answer ..)
    · exact h.alike (busAlike_answer ..)
    · exact h.alike (busAlike_answer ..)
    · exact h.alike (busAlike_answer ..)
    · refine h.takeJob hs _ _ (workOk_of_writeArg harg hoff hfits) (fun m => fun h => nomatch h) fun m hm => ?_
      obtain rfl : n = m := Option.some.inj hm
      exact occupied_of_classified (by simpa using hst)

theorem FlightInv.ownRescan {s : State} (h : FlightInv s) (hs : BusOk s) (tag : Byte) (payload : List Byte) :
    FlightInv (ownRescan tag payload s) := by
  unfold Machine.ownRescan
  split
  next => exact h.alike (busAlike_answer ..)
  next n force _ =>
    split_ifs with hst
    · exact h.alike (busAlike_answer ..)
    · exact h.alike (busAlike_answer ..)
    · exact h.alike (busAlike_answer ..)
    · have hqueue : QueueInv (joinInbox tag kindRescan .busJob s) := hs.queue.congr (busAlike_of_eq rfl rfl rfl rfl rfl)
      exact FlightInv.startNext (h.of_eq (by simp [joinInbox]) (by simp [joinInbox]))
        (hqueue.enqueueScan (by simpa using hst) (.inr (by simp)))

/-- R84: a RECOVER starts at once on a FAULTED bus, and waits its turn on any other. -/
theorem FlightInv.ownBusReset {s : State} (h : FlightInv s) (hs : BusOk s) (tag : Byte) (payload : List Byte) :
    FlightInv (ownBusReset tag payload s) := by
  unfold Machine.ownBusReset
  split
  next =>
    have hjob : WaitingOk s { work := .recover, presence := false, tags := [tag] } :=
      ⟨rfl, rfl, (fun hpresence => nomatch hpresence), fun _ => rfl, fun n hn => nomatch hn⟩
    exact flightInv_some rfl ((hjob.launch true).mono fun _ _ => id)
  next => exact h.takeJob hs _ _ rfl (fun m => fun h => nomatch h) fun m hm => nomatch hm

/-! ### CANCEL (R88, R89) -/

/-- A tag leaves the SCAN or MODULE READ in flight: other claims keep it, without one it is stopped. -/
theorem FlightInv.dropFlightClaim {s : State} (h : FlightInv s) (hs : BusOk s) {f : InFlight} (hf : s.inFlight = some f)
    (t : Byte) (hreading : isReading f.job = true) : FlightInv (dropFlightClaim t f s) := by
  have hok := h f hf
  have hlength : (f.job.tags.erase t).length ≤ f.job.tags.length := List.length_erase_le
  unfold Machine.dropFlightClaim
  dsimp only
  split
  next hclaim =>
    have hpresence : f.job.presence = false := by
      simp only [claimless, Bool.and_eq_true, Bool.not_eq_true'] at hclaim
      exact hclaim.2
    exact (hok.stoppable (j := { f.job with tags := f.job.tags.erase t }) hreading rfl hpresence hlength).markToStop hs.queue
  next hclaim =>
    obtain ⟨hwork, hprogress, hfailed, hpresence, htags, _, hmark, hslot⟩ := hok
    refine flightInv_some rfl ⟨hwork, ?_, hfailed, hpresence, fun hscan => hlength.trans (htags hscan),
      fun _ _ => Bool.eq_false_iff.mpr hclaim, hmark, hslot⟩
    rw [isReading] at hreading
    rw [progressOk] at hprogress ⊢
    cases hw : f.job.work <;> simp_all

theorem FlightInv.cancelJob {s : State} (h : FlightInv s) (hs : BusOk s) (tag t : Byte) :
    FlightInv (cancelJob tag t s) := by
  unfold Machine.cancelJob
  split
  next =>
    have hdropped : FlightInv { s with jobs := dropClaim t s.jobs } := h.of_eq rfl rfl
    exact hdropped.alike (busAlike_cancelledThenOk ..)
  next =>
    split
    next f hf =>
      split
      next =>
        have halike := busAlike_cancelledThenOk tag t s
        have hf' := halike.flight.trans hf
        unfold cancelInFlight
        split
        next hwork => exact (h.alike halike).dropFlightClaim (hs.congr halike) hf' t (by rw [isReading, hwork])
        next hwork => exact (h.alike halike).dropFlightClaim (hs.congr halike) hf' t (by rw [isReading, hwork])
        next => exact h.alike (busAlike_answer ..)
        next => exact h.alike (busAlike_answer ..)
      next => exact h.alike (busAlike_answer ..)
    next => exact h.alike (busAlike_answer ..)

theorem FlightInv.ownCancel {s : State} (h : FlightInv s) (hs : BusOk s) (tag : Byte) (payload : List Byte) :
    FlightInv (ownCancel tag payload s) := by
  unfold Machine.ownCancel
  split
  next => exact h.alike (busAlike_answer ..)
  next t _ =>
    split
    next => exact h.alike (busAlike_answer ..)
    next =>
      split
      next => exact h.cancelJob hs tag t
      next =>
        unfold cancelResolve
        split
        next => exact h.alike ((busAlike_dropEntry ..).trans (busAlike_answer ..))
        next => exact h.alike (busAlike_answer ..)

/-! ### RESET (R90, R91) -/

/-- A job in flight whose presence claim, or whose kind, keeps it without host tags. -/
theorem FlightOk.withoutTags {s t : State} {f : InFlight} (h : FlightOk s f) (hslots : t.slots = s.slots)
    (hkept : isReading f.job = true → f.job.presence = true) :
    FlightOk t { f with job := Machine.withoutTags f.job } := by
  obtain ⟨hwork, hprogress, hfailed, hpresence, _, _, hmark, hslot⟩ := h
  refine ⟨hwork, ?_, hfailed, hpresence, fun _ => Nat.zero_le 1, fun hreading _ => ?_, hmark, hslots ▸ hslot⟩
  · rw [progressOk] at hprogress ⊢
    dsimp only [Machine.withoutTags]
    cases hw : f.job.work with
    | userWrite n off data =>
      cases ha : f.activity <;> cases hp : f.phase <;> simp_all
    | _ => simpa [hw] using hprogress
  · have hclaim : f.job.presence = true := hkept hreading
    simp [claimless, Machine.withoutTags, hclaim]

theorem FlightInv.sessionBus {s : State} (h : FlightInv s) (hs : BusOk s) : FlightInv (sessionBus s) := by
  have hqueue : QueueInv { s with jobs := (s.jobs.filter Job.presence).map withoutTags } := hs.sessionJobs.queue
  have hgoes {f : InFlight} (hf : s.inFlight = some f) (hkept : isReading f.job = true → f.job.presence = true) :
      FlightInv { s with
        jobs := (s.jobs.filter Job.presence).map withoutTags, inFlight := some { f with job := withoutTags f.job } } :=
    flightInv_some rfl ((h f hf).withoutTags rfl hkept)
  have hmarked {f : InFlight} (hf : s.inFlight = some f) (hreading : isReading f.job = true)
      (hpresence : f.job.presence = false) :
      FlightInv (markToStop { f with job := withoutTags f.job }
        { s with jobs := (s.jobs.filter Job.presence).map withoutTags }) :=
    ((h f hf).stoppable (j := withoutTags f.job) hreading rfl hpresence (Nat.zero_le _)).markToStop hqueue
  unfold Machine.sessionBus
  dsimp only
  split
  next hf => exact flightInv_none hf
  next f hf =>
    split
    next n hwork =>
      split
      next hpresence => exact hgoes hf fun _ => hpresence
      next hpresence => exact hmarked hf (by rw [isReading, hwork]) (Bool.eq_false_iff.mpr hpresence)
    next n off len hwork =>
      obtain ⟨_, _, _, hpresence, _⟩ := h f hf
      refine hmarked hf (by rw [isReading, hwork]) (Bool.eq_false_iff.mpr fun hp => ?_)
      obtain ⟨m, hm⟩ := isScan_iff.mp (hpresence hp)
      exact nomatch hwork.symm.trans hm
    next n off data hwork =>
      refine hgoes hf fun hreading => ?_
      rw [isReading, hwork] at hreading
      exact nomatch hreading
    next hwork =>
      refine hgoes hf fun hreading => ?_
      rw [isReading, hwork] at hreading
      exact nomatch hreading

theorem FlightInv.ownReset {s : State} (h : FlightInv s) (hs : BusOk s) (tag : Byte) (payload : List Byte) :
    FlightInv (ownReset tag payload s) := by
  have haborted : BusAlike s (answer tag kindReset .ok [] (abortAll s)) := busAlike_of_eq rfl rfl rfl rfl rfl
  have hsession := (h.alike haborted).sessionBus (hs.congr haborted)
  unfold Machine.ownReset
  split
  next => exact h.alike (busAlike_answer ..)
  next =>
    have hprofiles := hsession.of_eq (t := sessionProfiles (Machine.sessionBus (answer tag kindReset .ok [] (abortAll s))))
      rfl rfl
    exact (hprofiles.alike (busAlike_sessionSlots _)).of_eq rfl rfl
  next => exact hsession.of_eq rfl rfl

/-! ### Every frame, byte and gap -/

/-- Every owner keeps the job in flight right. -/
theorem FlightInv.ownerOf {s : State} (h : FlightInv s) (hs : BusOk s) (tag kind : Byte) (payload : List Byte) :
    FlightInv (ownerOf tag kind payload s) :=
  ownerOf_elim tag kind payload s (fun _ hquiet => h.alike hquiet.busAlike) (fun _ => h.ownReadModule hs tag payload)
    (fun _ => h.ownWriteUser hs tag payload) (fun _ => h.ownRescan hs tag payload)
    (h.alike (busAlike_ownSetOverride ..)) (h.alike (busAlike_ownClearOverrides ..))
    (fun _ => h.alike (busAlike_ownResolve ..)) (h.alike (busAlike_ownDrop ..)) (h.ownCancel hs tag payload)
    (fun _ => h.ownBusReset hs tag payload) (h.ownReset hs tag payload)

theorem linkKeeps_busOk_flightInv : LinkKeeps fun s => BusOk s ∧ FlightInv s where
  receiver _ _ h := ⟨h.1.congr (busAlike_of_eq rfl rfl rfl rfl rfl), h.2.of_eq rfl rfl⟩
  dropped _ _ h := ⟨h.1.congr (busAlike_raise ..), h.2.alike (busAlike_raise ..)⟩
  refused _ _ _ _ h := ⟨h.1.congr (busAlike_answer ..), h.2.alike (busAlike_answer ..)⟩
  owned tag kind payload _ _ h := ⟨h.1.ownerOf tag kind payload, h.2.ownerOf h.1 tag kind payload⟩

/-! ### Every command -/

/-- A command keeps the job in flight right in a state that is out of the line reset. -/
theorem Inv.flightInv_exec {s t : State} (h : Inv s) (hrun : s.resetAsserted = false) {c : Instr}
    (ht : exec c s = .next t) : FlightInv t := by
  have hs := h.busOk hrun
  have hf := h.flight
  cases hframe : requestFrame c with
  | some frame => exact (linkKeeps_busOk_flightInv.exec_request hframe ⟨hs, hf⟩ ht).2
  | none =>
    cases c with
    | lineReset =>
      cases ht
      exact flightInv_none rfl
    | lineResetRelease rate pres =>
      rcases exec_lineResetRelease_cases ht with rfl | ⟨hreset, _⟩
      · exact hf
      · exact nomatch hrun.symm.trans hreset
    | presenceLow n =>
      rcases exec_presenceLow_cases ht with ⟨_, rfl⟩ | ⟨_, rfl⟩
      · exact hf
      · have hlow : FlightInv { s with pres := s.pres.set n false } := hf.of_eq rfl rfl
        exact hlow.alike (busAlike_startSettling ..)
    | presenceHigh n =>
      rcases exec_presenceHigh_cases ht with ⟨_, rfl⟩ | ⟨_, rfl⟩
      · exact hf
      · exact hf.presenceHigh hs n
    | settleExpiry n =>
      rcases exec_settleExpiry_cases ht with rfl | ⟨_, rfl⟩
      · exact hf
      · exact hf.insertion hs
    | segmentDone bytes =>
      by_cases hbytes : bytes.length = 16
      · rcases exec_segmentDone_cases ht with rfl | ⟨f, n, hflight, hwork, hactivity, rfl⟩
        · exact hf
        · exact hf.segmentEnd hs hflight hwork hactivity hbytes
      · rw [exec_segmentDone_of_length_ne s hbytes] at ht
        cases ht
        exact hf
    | transactionFailed acked =>
      rcases exec_transactionFailed_cases ht with rfl | ⟨f, hflight, hactivity, rfl⟩
      · exact hf
      · exact hf.transactionEnd hs hflight hactivity acked
    | retryTimerExpiry =>
      rcases exec_retryTimerExpiry_cases ht with rfl | ⟨f, hflight, hactivity, ⟨_, rfl⟩ | ⟨_, rfl⟩⟩
      · exact hf
      · exact hs.flightInv_endStopped f
      · exact hf.retried hflight hactivity
    | stuckBus acked =>
      rcases exec_stuckBus_cases ht with rfl | ⟨f, _, _, rfl⟩
      · exact hf
      · exact flightInv_stuckBus _ s 0
    | recoveryEnd looks scl sda =>
      rcases exec_recoveryEnd_cases ht with rfl | ⟨_, rfl⟩
      · exact hf
      · have hlooked : BusOk { s with pulses := pulsesSent looks } := hs.congr (busAlike_of_eq rfl rfl rfl rfl rfl)
        exact hlooked.flightInv_recoveryOutcome _
    | moduleReadDone bytes =>
      rcases exec_moduleReadDone_cases ht with rfl | ⟨f, n, off, len, _, _, rfl | rfl⟩
      · exact hf
      · exact hs.flightInv_endStopped f
      · exact hs.flightInv_finishJob (busAlike_endTags ..)
    | pageWriteDone =>
      rcases exec_pageWriteDone_cases ht with rfl | ⟨f, hflight, hwrite, rfl⟩
      · exact hf
      · exact hf.pageWritten hflight hwrite
    | pollTimerExpiry =>
      rcases exec_pollTimerExpiry_cases ht with rfl | ⟨f, hflight, hactivity, rfl⟩
      · exact hf
      · exact hf.polled hflight hactivity
    | pollDone acked =>
      rcases exec_pollDone_cases ht with rfl | ⟨f, n, off, data, hflight, hwork, hactivity, rfl⟩
      · exact hf
      · exact hf.pollEnd hs hflight hwork hactivity acked
    | readBackDone bytes =>
      rcases exec_readBackDone_cases ht with rfl | ⟨f, n, off, data, _, _, rfl⟩
      · exact hf
      · exact hs.flightInv_readBackEnd f n off data bytes
    | userWriteAbandonEnd =>
      rcases exec_userWriteAbandonEnd_cases ht with rfl | ⟨_, _, _, rfl⟩
      · exact hf
      · exact hs.flightInv_finishJob (busAlike_refl s)
    | resolutionComplete =>
      rcases exec_resolutionComplete_cases ht with rfl | ⟨w, e, tag, sn, rfl⟩
      · exact hf
      · exact hf.of_eq (by simp [resolutionEnd]) (by simp [resolutionEnd])
    | characterDropped =>
      cases ht
      exact hf
    | byteReceived b => exact (linkKeeps_busOk_flightInv.exec_byteReceived ⟨hs, hf⟩ ht).2
    | gapExpiry => exact (linkKeeps_busOk_flightInv.exec_gapExpiry ⟨hs, hf⟩ ht).2
    | replySendStart =>
      rcases exec_replySendStart_cases ht with rfl | ⟨r, rest, rfl⟩
      · exact hf
      · exact hf.of_eq rfl rfl
    | replySent =>
      rcases exec_replySent_cases ht with rfl | rfl | ⟨_, rfl⟩
      · exact hf
      · exact hf.of_eq rfl rfl
      · exact flightInv_none rfl
    | _ => exact nomatch hframe

/-- In a line reset no command puts a job in flight. -/
theorem flightInv_exec_in_reset (pending : List Instr) {c : Instr} {t : State}
    (ht : exec c { State.reset with pending := pending } = .next t) : FlightInv t := by
  by_cases hrelease : ∃ rate pres, c = .lineResetRelease rate pres
  · obtain ⟨rate, pres, rfl⟩ := hrelease
    cases ht
    exact flightInv_none rfl
  · rw [exec_in_reset pending fun rate pres hc => hrelease ⟨rate, pres, hc⟩] at ht
    cases ht
    exact flightInv_none rfl

/-- Settles O59: out of a line reset command by command; in it no job is in flight. -/
theorem stepKeepsJobInFlight : Obligations.StepKeepsJobInFlight := by
  intro s t h ht
  rcases step_cases ht with rfl | ⟨c, rest, hexec⟩
  · exact h.flight
  · have hpending := h.withPending rest
    cases hrun : s.resetAsserted with
    | false => exact hpending.flightInv_exec hrun hexec
    | true =>
      rw [hpending.eq_reset hrun] at hexec
      exact flightInv_exec_in_reset _ hexec

end Sys2Proof.Machine
end

section
/-! The events of the sideband bus where they apply, as equations: what each does to the job in flight (R72 to R87). -/

namespace Sys2Proof.Machine

section Applies
variable {s : State} {f : InFlight} (hf : s.inFlight = some f)
include hf

theorem exec_segmentDone_scan {n : SlotNo} (hwork : f.job.work = .scan n) (ha : f.activity = .transaction)
    {bytes : List Byte} (hbytes : bytes.length = 16) :
    exec (.segmentDone bytes) s = .next (segmentEnd n f bytes s) := by
  simp [exec, execSegmentDone, hf, hwork, ha, hbytes, segmentLength]

theorem exec_moduleReadDone_read {n : SlotNo} {off len : Nat} (hwork : f.job.work = .moduleRead n off len)
    (ha : f.activity = .transaction) {bytes : List Byte} (hbytes : bytes.length = len) :
    exec (.moduleReadDone bytes) s =
      .next (if f.stopMark then endStopped f s else finishJob (endTags .ok bytes f.job.tags s)) := by
  simp [exec, execModuleReadDone, hf, hwork, ha, hbytes]

theorem exec_transactionFailed_transaction (ha : f.activity = .transaction) (acked : Bool) :
    exec (.transactionFailed acked) s = .next (transactionEnd (noteAcked acked f) s) := by
  simp [exec, execTransactionFailed, hf, ha]

theorem exec_retryTimerExpiry_unmarked (ha : f.activity = .retryWait) (hmark : f.stopMark = false) :
    exec .retryTimerExpiry s = .next { s with inFlight := some { f with activity := .transaction } } := by
  simp [exec, execRetryTimerExpiry, hf, ha, hmark]

theorem exec_stuckBus_busy (hbus : s.bus = .busy) (acked : Bool) :
    exec (.stuckBus acked) s =
      .next { stuckFailure (noteAcked acked f) s with inFlight := none, bus := .recovering, pulses := 0 } := by
  simp [exec, execStuckBus, hf, hbus]

theorem exec_pollTimerExpiry_pollWait (ha : f.activity = .pollWait) :
    exec .pollTimerExpiry s = .next { s with inFlight := some { f with activity := .poll, polls := f.polls + 1 } } := by
  simp [exec, execPollTimerExpiry, hf, ha]

theorem exec_userWriteAbandonEnd_stopCondition (ha : f.activity = .stopCondition) :
    exec .userWriteAbandonEnd s = .next (finishJob s) := by
  simp [exec, execUserWriteAbandonEnd, hf, ha]

section Writing
variable {n : SlotNo} {off : Nat} {data : List Byte} (hwork : f.job.work = .userWrite n off data)
include hwork

theorem exec_pageWriteDone_writing (ha : f.activity = .transaction) (hp : f.phase = .writing) :
    exec .pageWriteDone s = .next { s with inFlight := some { f with
      phase := .polling, activity := .pollWait, failed := 0, dataAcked := true, polls := 0 } } := by
  simp [exec, execPageWriteDone, inPageWrite, hf, hwork, ha, hp]

theorem exec_pollDone_poll (ha : f.activity = .poll) (acked : Bool) :
    exec (.pollDone acked) s = .next (pollEnd f n off acked s) := by
  simp [exec, execPollDone, hf, hwork, ha]

theorem exec_readBackDone_readBack (ha : f.activity = .transaction) (hp : f.phase = .readBack) {bytes : List Byte}
    (hbytes : bytes.length = 16) :
    exec (.readBackDone bytes) s = .next (readBackEnd f n off data bytes s) := by
  simp [exec, execReadBackDone, hf, hwork, ha, hp, hbytes, segmentLength]

end Writing

end Applies

theorem exec_recoveryEnd_recovering {s : State} (hbus : s.bus = .recovering) (looks : List Bool) (scl sda : Bool) :
    exec (.recoveryEnd looks scl sda) s =
      .next (recoveryOutcome (scl && sda) { s with pulses := min 9 (looks.takeWhile fun high => !high).length }) := by
  simp [exec, execRecoveryEnd, pulsesSent, hbus]

/-! ### A failed transaction, by the number of failures (R72, R85) -/

theorem noteAcked_job (acked : Bool) (f : InFlight) : (noteAcked acked f).job = f.job := rfl

theorem noteAcked_stopMark (acked : Bool) (f : InFlight) : (noteAcked acked f).stopMark = f.stopMark := rfl

theorem transactionEnd_marked {f : InFlight} (hmark : f.stopMark = true) (s : State) :
    transactionEnd f s = endStopped f s := by
  rw [transactionEnd, if_pos hmark]

theorem transactionEnd_retry {f : InFlight} (hmark : f.stopMark = false) (hfailed : f.failed < 3) (s : State) :
    transactionEnd f s = { s with inFlight := some { f with failed := f.failed + 1, activity := .retryWait } } := by
  have hmore : f.failed + 1 < maxAttempts := Nat.succ_lt_succ hfailed
  rw [transactionEnd, hmark, if_neg Bool.false_ne_true, if_pos hmore]

theorem transactionEnd_noResponse {f : InFlight} (hmark : f.stopMark = false) (hfailed : 3 ≤ f.failed) (s : State) :
    transactionEnd f s = finishJob (deliverFailure f .noResponse .noResponse s) := by
  have hlast : ¬ f.failed + 1 < maxAttempts := Nat.not_lt.mpr (Nat.succ_le_succ hfailed)
  rw [transactionEnd, hmark, if_neg Bool.false_ne_true, if_neg hlast]

/-! ### A failure's delivery, by the kind of the job (R75, R76, R79) -/

section Delivery
variable {f : InFlight} {n : SlotNo} (c : UnreadableCause) (st : Status) (s : State)

theorem deliverFailure_scan (hwork : f.job.work = .scan n) :
    deliverFailure f c st s = endTags st [] f.job.tags (failScans [n] c s) := by simp [deliverFailure, hwork]

theorem deliverFailure_moduleRead {off len : Nat} (hwork : f.job.work = .moduleRead n off len) :
    deliverFailure f c st s = endTags st [] f.job.tags s := by simp [deliverFailure, hwork]

theorem deliverFailure_userWrite {off : Nat} {data : List Byte} (hwork : f.job.work = .userWrite n off data) :
    deliverFailure f c st s =
      endTags st [] f.job.tags (if pageLost f then changeCopy n (invalidatePage off) s else s) := by
  simp [deliverFailure, hwork]

end Delivery

theorem inPageWrite_userWrite {f : InFlight} {n : SlotNo} {off : Nat} {data : List Byte}
    (hwork : f.job.work = .userWrite n off data) :
    inPageWrite f = (f.activity == .transaction && f.phase == .writing) := by simp [inPageWrite, hwork]

/-- R79: the memory may hold other bytes once a data byte was acknowledged, in this failure or before. -/
theorem pageLost_noteAcked {f : InFlight} {n : SlotNo} {off : Nat} {data : List Byte}
    (hwork : f.job.work = .userWrite n off data) (acked : Bool) :
    pageLost (noteAcked acked f) = true ↔
      f.phase ≠ .writing ∨ f.dataAcked = true ∨ (acked = true ∧ f.activity = .transaction) := by
  by_cases hp : f.phase = .writing
  · simp [pageLost, noteAcked, inPageWrite_userWrite hwork, hp]
  · simp [pageLost, noteAcked, hp]

/-! ### The end of a recovery (R80 to R84) -/

theorem recoveryOutcome_stuck {s : State} (hf : s.inFlight = none) (free : Bool) :
    recoveryOutcome free s = if free = true then startNext { s with bus := .idle } else enterFaulted true s := by
  simp only [recoveryOutcome, hf]

theorem recoveryOutcome_recover {s : State} {f : InFlight} (hf : s.inFlight = some f) (free : Bool) :
    recoveryOutcome free s = recoverEnd f free s := by
  simp only [recoveryOutcome, hf]

theorem recoverEnd_outside {f : InFlight} (h : f.fromFaulted = false) (free : Bool) (s : State) :
    recoverEnd f free s = if free = true then finishJob (endTags .ok [] f.job.tags s)
      else enterFaulted true (endTags .busFault [] f.job.tags s) := by
  cases free <;> simp [recoverEnd, h]

theorem recoverEnd_inside {f : InFlight} (h : f.fromFaulted = true) (free : Bool) (s : State) :
    recoverEnd f free s = if free = true then busRecovered f s
      else enterFaulted false (endTags .busFault [] f.job.tags s) := by
  cases free <;> simp [recoverEnd, h]

/-! ### The obligations -/

/-- Settles O11: a segment's end and a read's end, where they apply. -/
theorem readsOfTheModule : Obligations.ReadsOfTheModule := by
  refine ⟨fun n f bytes s hf hwork ha hmark hbytes hread => ?_, fun n off len f bytes s hf hwork ha hmark hbytes => ?_⟩
  · have hmore : ¬ 256 ≤ (f.bytesRead ++ bytes).length := by
      rw [List.length_append]
      omega
    rw [exec_segmentDone_scan hf hwork ha hbytes, segmentEnd, hmark, if_neg Bool.false_ne_true, if_neg hmore]
  · rw [exec_moduleReadDone_read hf hwork ha hbytes, hmark, if_neg Bool.false_ne_true]

/-- Settles O14: each end of its transaction looks at the mark first; the end of a job touches link and bus alone. -/
theorem markedJobEndsStopped : Obligations.MarkedJobEndsStopped := by
  intro f s hf hmark ha stopped
  refine ⟨fun n bytes hwork hbytes => ?_, fun n off len bytes hwork hbytes => ?_, fun acked => ?_, ?_⟩
  · rw [exec_segmentDone_scan hf hwork ha hbytes, segmentEnd, if_pos hmark]
    rfl
  · rw [exec_moduleReadDone_read hf hwork ha hbytes, if_pos hmark]
    rfl
  · rw [exec_transactionFailed_transaction hf ha, transactionEnd_marked (f := noteAcked acked f) hmark]
    rfl
  · exact endStopped_frame f s

/-- Settles O15: the retries, and the fourth failure by the kind of the job. -/
theorem retriesAndNoResponse : Obligations.RetriesAndNoResponse := by
  refine ⟨fun f s hf hmark => ⟨fun acked ha hfailed => ?_, fun ha => exec_retryTimerExpiry_unmarked hf ha hmark⟩,
    fun f acked s hf hmark ha hfailed => ?_⟩
  · have hacked : inPageWrite f = (!isReading f.job && f.job.work != .recover && f.phase == .writing) := by
      rw [inPageWrite, isReading, ha]
      cases f.job.work <;> simp
    rw [exec_transactionFailed_transaction hf ha, transactionEnd_retry (f := noteAcked acked f) hmark hfailed, ← hacked]
    rfl
  · rw [exec_transactionFailed_transaction hf ha, transactionEnd_noResponse (f := noteAcked acked f) hmark hfailed]
    refine ⟨fun n hwork => ?_, fun n off len hwork => ?_, fun n off data hwork => ?_⟩
    · rw [deliverFailure_scan (f := noteAcked acked f) _ _ _ hwork]
      rfl
    · rw [deliverFailure_moduleRead (f := noteAcked acked f) _ _ _ hwork]
      rfl
    · have hlost : pageLost (noteAcked acked f) = true ↔ f.phase ≠ .writing ∨ f.dataAcked = true ∨ acked = true := by
        rw [pageLost_noteAcked hwork, and_iff_left ha]
      rw [deliverFailure_userWrite (f := noteAcked acked f) _ _ _ hwork, if_congr hlost rfl rfl]
      rfl

/-- Settles O17: the failure of a stuck bus by mark and kind, and the four ends of a recovery. -/
theorem stuckBusAndRecovery : Obligations.StuckBusAndRecovery := by
  refine ⟨?_, ?_⟩
  · intro f acked s hf hbus recovering
    rw [exec_stuckBus_busy hf hbus, stuckFailure, noteAcked_stopMark, noteAcked_job]
    refine ⟨fun hmark => by rw [if_pos hmark], fun hmark => ?_⟩
    rw [hmark, if_neg Bool.false_ne_true]
    refine ⟨fun n hwork => ?_, fun n off len hwork => ?_, fun n off data hwork => ?_⟩
    · rw [deliverFailure_scan (f := noteAcked acked f) _ _ _ hwork]
      rfl
    · rw [deliverFailure_moduleRead (f := noteAcked acked f) _ _ _ hwork]
      rfl
    · rw [deliverFailure_userWrite (f := noteAcked acked f) _ _ _ hwork, if_congr (pageLost_noteAcked hwork acked) rfl rfl]
      rfl
  · intro looks scl sda s hbus p
    have hfree : (scl && sda) = true ↔ scl = true ∧ sda = true := Bool.and_eq_true_iff
    rw [exec_recoveryEnd_recovering hbus]
    refine ⟨fun hf => ?_, fun f hf => ⟨fun hbegun => ?_, fun hbegun => ?_⟩⟩
    · rw [recoveryOutcome_stuck (by exact hf), if_congr hfree rfl rfl]
    · rw [recoveryOutcome_recover (f := f) (by exact hf), recoverEnd_outside hbegun, if_congr hfree rfl rfl]
    · rw [recoveryOutcome_recover (f := f) (by exact hf), recoverEnd_inside hbegun, if_congr hfree rfl rfl]
      rfl

/-- Settles O20: the phases of a USER WRITE, and the end of an abandoned one. -/
theorem userWritePhases : Obligations.UserWritePhases := by
  refine ⟨fun n off data f s hf hwork => ⟨?_, ?_, fun ha => ⟨?_, fun hpolls => ?_, fun hpolls => ?_⟩⟩, fun f s hf ha => ?_⟩
  · exact exec_pageWriteDone_writing hf hwork
  · exact exec_pollTimerExpiry_pollWait hf
  · rw [exec_pollDone_poll hf hwork ha]
    rfl
  · rw [exec_pollDone_poll hf hwork ha, pollEnd, if_neg Bool.false_ne_true, if_pos (by exact hpolls)]
  · have hlast : ¬ f.polls < maxPolls := Nat.not_lt.mpr hpolls
    rw [exec_pollDone_poll hf hwork ha, pollEnd, if_neg Bool.false_ne_true, if_neg hlast]
    rfl
  · exact exec_userWriteAbandonEnd_stopCondition hf ha

end Sys2Proof.Machine
end

section
/-! The queue's order (R65, R69, R70), the read-back (R57, R79), and what is on the sideband bus (R66, R77). -/

namespace Sys2Proof.Machine

/-! ### Starts and demands -/

/-- A job that is no RECOVER starts with a transaction on a BUSY bus. -/
theorem startJob_transaction {j : Job} (h : j.work ≠ .recover) (b : Bool) (s : State) :
    startJob j b s = { s with
      inFlight := some { job := j, stopMark := false, activity := .transaction, failed := 0, bytesRead := []
                         phase := .writing, dataAcked := false, polls := 0, fromFaulted := b }
      lineSpeed := s.config.busSpeed, bus := .busy } := by
  rw [startJob, launch, if_neg h, if_neg h, if_neg h]

/-- A RECOVER starts with a recovery that has sent no pulse. -/
theorem startJob_recover {j : Job} (h : j.work = .recover) (b : Bool) (s : State) :
    startJob j b s = { s with
      inFlight := some { job := j, stopMark := false, activity := .recovery, failed := 0, bytesRead := []
                         phase := .writing, dataAcked := false, polls := 0, fromFaulted := b }
      lineSpeed := s.config.busSpeed, bus := .recovering, pulses := 0 } := by
  rw [startJob, launch, if_pos h, if_pos h, if_pos h]

/-- The first waiting SCAN of the slot takes the claims, in its place. -/
theorem joinScan_append {n : SlotNo} (p : Bool) (ts : List Byte) {front : List Job} {j : Job} (back : List Job)
    (hj : j.work = .scan n) (hfront : ∀ x ∈ front, x.work ≠ .scan n) :
    joinScan n p ts (front ++ j :: back) = front ++ { j with presence := j.presence || p, tags := j.tags ++ ts } :: back := by
  induction front with
  | nil => rw [List.nil_append, joinScan, if_pos (isScanOf_iff.mpr hj), List.nil_append]
  | cons x xs ih =>
    have hx : ¬ isScanOf n x = true := fun h => hfront x List.mem_cons_self (isScanOf_iff.mp h)
    rw [List.cons_append, joinScan, if_neg hx, ih fun y hy => hfront y (List.mem_cons_of_mem x hy), List.cons_append]

/-- Settles O10: the end of a job by the head of the queue, a demand by the first SCAN of its slot. -/
theorem jobQueueOrder : Obligations.JobQueueOrder := by
  refine ⟨⟨fun s hjobs => finishJob_no_job hjobs, fun j rest s hjobs => ⟨fun hwork => ?_, fun hwork => ?_⟩⟩,
    fun n p ts s => ⟨fun front back j hjobs hj hfront => ?_, fun hnone => ?_⟩⟩
  · rw [finishJob_job hjobs, startJob_transaction hwork]
  · rw [finishJob_job hjobs, startJob_recover hwork]
  · have hwaiting : scanWaiting s n = true :=
      scanWaiting_iff.mpr ⟨j, hjobs ▸ List.mem_append_right front List.mem_cons_self, hj⟩
    rw [enqueueScan, if_pos hwaiting, hjobs, joinScan_append p ts back hj hfront]
  · have hwaiting : ¬ scanWaiting s n = true := fun h => by
      obtain ⟨j, hj, hwork⟩ := scanWaiting_iff.mp h
      exact hnone j hj hwork
    rw [enqueueScan, if_neg hwaiting]

/-! ### The read-back (R57, R79) -/

/-- The written bytes are compared one by one with those at their offsets. -/
theorem readBackEqual_iff {off : Nat} {data page : List Byte} :
    readBackEqual off data page = true ↔ ∀ i, i < data.length → data[i]? = page[off % 16 + i]? := by
  have hwindow (i : Nat) (hi : i < data.length) : (window page (off % 16) data.length)[i]? = page[off % 16 + i]? := by
    rw [window, List.getElem?_take_of_lt hi, List.getElem?_drop]
  rw [readBackEqual, beq_iff_eq]
  refine ⟨fun h i hi => ?_, fun h => List.ext_getElem? fun i => ?_⟩
  · rw [← hwindow i hi, h]
  · by_cases hi : i < data.length
    · rw [hwindow i hi, h i hi]
    · rw [List.getElem?_eq_none (Nat.not_lt.mp hi), List.getElem?_eq_none]
      rw [window, List.length_take]
      omega

/-- The copy after a read-back: the written bytes where they were read back, otherwise the page as read. -/
def readBackCopy (off : Nat) (data page : List Byte) (c : ImageCopy) : ImageCopy :=
  if readBackEqual off data page then writePage off data c else writePage (pageStart off) page c

theorem readBackEnd_equal {off : Nat} {data page : List Byte} (h : readBackEqual off data page = true) (f : InFlight)
    (n : SlotNo) (s : State) :
    readBackEnd f n off data page s =
      finishJob (endTags .ok [] f.job.tags (changeCopy n (readBackCopy off data page) s)) := by
  have hcopy : readBackCopy off data page = writePage off data := funext fun c => if_pos h
  rw [readBackEnd, if_pos h, hcopy]

theorem readBackEnd_mismatch {off : Nat} {data page : List Byte} (h : ¬ readBackEqual off data page = true)
    (f : InFlight) (n : SlotNo) (s : State) :
    readBackEnd f n off data page s =
      finishJob (endTags .mismatch page f.job.tags (changeCopy n (readBackCopy off data page) s)) := by
  have hcopy : readBackCopy off data page = writePage (pageStart off) page := funext fun c => if_neg h
  rw [readBackEnd, if_neg h, hcopy]

/-- A write of the user area stays in one page (R77). -/
theorem workOk_userWrite_iff {n : SlotNo} {off : Nat} {data : List Byte} :
    workOk (.userWrite n off data) = true ↔
      208 ≤ off ∧ 1 ≤ data.length ∧ data.length ≤ 16 ∧ off + data.length ≤ 256 ∧
        off / 16 = (off + data.length - 1) / 16 := by
  simp only [workOk, writeFits, Bool.and_eq_true, decide_eq_true_eq, beq_iff_eq, and_assoc]

theorem readBackCopy_marks (off : Nat) (data page : List Byte) (c : ImageCopy) :
    (readBackCopy off data page c).marks = c.marks.set (off / 16) true := by
  unfold readBackCopy
  split
  next => rfl
  next => rw [writePage, pageStart, Nat.mul_div_cancel _ (by decide)]

theorem readBackCopy_length (off : Nat) (data page : List Byte) (c : ImageCopy) :
    (readBackCopy off data page c).bytes.length = c.bytes.length := by
  unfold readBackCopy
  split <;> exact overlay_length ..

/-- The bytes of the copy after a read-back, offset by offset. -/
theorem readBackCopy_getElem? {n : SlotNo} {off : Nat} {data page : List Byte} (hwork : workOk (.userWrite n off data) = true)
    (hpage : page.length = 16) (c : ImageCopy) {a : Nat} (ha : a < c.bytes.length) :
    (readBackCopy off data page c).bytes[a]? =
      if off ≤ a ∧ a < off + data.length then page[a % 16]?
      else if readBackEqual off data page = false ∧ a / 16 = off / 16 then page[a % 16]?
      else c.bytes[a]? := by
  obtain ⟨_, hlow, _, _, hone⟩ := workOk_userWrite_iff.mp hwork
  cases h : readBackEqual off data page with
  | true =>
    rw [readBackCopy, if_pos h, writePage, overlay_getElem? _ _ _ _ ha]
    by_cases hin : off ≤ a ∧ a < off + data.length
    · have hoffset : off % 16 + (a - off) = a % 16 := by omega
      rw [if_pos hin, if_pos hin, readBackEqual_iff.mp h (a - off) (by omega), hoffset]
    · rw [if_neg hin, if_neg hin, if_neg (by simp)]
  | false =>
    have hcopy : readBackCopy off data page c = writePage (pageStart off) page c := if_neg (by simp [h])
    rw [hcopy, writePage, overlay_getElem? _ _ _ _ ha, hpage, pageStart]
    by_cases hsame : a / 16 = off / 16
    · have hin : off / 16 * 16 ≤ a ∧ a < off / 16 * 16 + 16 := by omega
      have hoffset : a - off / 16 * 16 = a % 16 := by omega
      rw [if_pos hin, if_pos (⟨rfl, hsame⟩ : false = false ∧ a / 16 = off / 16), ite_self, hoffset]
    · have hout : ¬ (off / 16 * 16 ≤ a ∧ a < off / 16 * 16 + 16) := by omega
      have hunwritten : ¬ (off ≤ a ∧ a < off + data.length) := by omega
      rw [if_neg hout, if_neg hunwritten, if_neg fun h => hsame h.2]

/-- Settles O21: the comparison decides status and copy; the copy is told byte by byte. -/
theorem readBackDecides : Obligations.ReadBackDecides := by
  intro n off data bytes f s hf hwork ha hp hbytes hok same
  have hsame : readBackEqual off data bytes = true ↔ same := readBackEqual_iff
  have hother : readBackEqual off data bytes = false ↔ ¬ same := by rw [← hsame, Bool.not_eq_true]
  refine ⟨readBackCopy off data bytes, fun h => ?_, fun h => ?_, fun c hc => ?_⟩
  · rw [exec_readBackDone_readBack hf hwork ha hp hbytes, readBackEnd_equal (hsame.mpr h)]
    rfl
  · rw [exec_readBackDone_readBack hf hwork ha hp hbytes, readBackEnd_mismatch (h ∘ hsame.mp)]
    rfl
  · obtain ⟨hlength, _⟩ := hc
    refine ⟨readBackCopy_marks .., (readBackCopy_length ..).trans hlength, fun a hlt => ?_⟩
    rw [readBackCopy_getElem? hok hbytes c (hlength.symm ▸ hlt)]
    exact if_congr Iff.rfl rfl (if_congr (and_congr_left' hother) rfl rfl)

/-! ### What is on the bus (R66, R77, R208) -/

/-- Only a USER WRITE in its page write has one on the bus, at its offset and with its data. -/
theorem work_of_pageWrite {f : InFlight} {n : SlotNo} {off : Nat} {data : List Byte}
    (h : busTransaction f = some (.pageWrite n off data)) : f.job.work = .userWrite n off data := by
  unfold busTransaction at h
  split at h
  next => exact nomatch h
  next => exact nomatch h
  next m o ds _ hwork =>
    split at h
    next =>
      cases h
      exact hwork
    next => exact nomatch h
    next => exact nomatch h
  next => exact nomatch h
  next => exact nomatch h

/-- Settles O22: the arguments of the job in flight bound the page write; the symbols are read off their list. -/
theorem writesStayInTheUserArea : Obligations.WritesStayInTheUserArea := by
  refine ⟨fun s f n off data h hf hwrite => ?_, ?_, fun t front back b ht => ?_⟩
  · obtain ⟨hwork, _⟩ := h.flight f hf
    rw [work_of_pageWrite hwrite] at hwork
    obtain ⟨hlow, hsome, hmost, hend, hone⟩ := workOk_userWrite_iff.mp hwork
    exact ⟨hlow, hend, hsome, hmost, hone⟩
  · intro n off data len hlen write read offset
    have hwrite : addressWrite n = write := by
      rw [addressWrite, byte, Nat.mul_add]
    have hread : addressRead n = read := by
      rw [addressRead, byte, Nat.mul_add, Nat.add_right_comm]
    refine ⟨takenBytes len, ?_, fun i hi => ?_, ?_, ?_, ?_, ?_⟩
    · rw [takenBytes, List.length_append, List.length_replicate, List.length_singleton]
      omega
    · rw [takenBytes, List.getElem?_append_left (by rw [List.length_replicate]; omega), List.getElem?_replicate,
        if_pos (by omega)]
    · rw [takenBytes, List.getElem?_append_right (by rw [List.length_replicate]), List.length_replicate, Nat.sub_self]
      rfl
    · rw [transactionSymbols, hwrite, hread]
      rfl
    · rw [transactionSymbols, hwrite]
      rfl
    · rw [transactionSymbols, hread]
  · rw [unacknowledgedAt, ht, List.take_length_add_append, List.append_assoc]
    rfl

end Sys2Proof.Machine
end

section
/-! What a removal does to the jobs of its slot (R85 to R87, R162), and the FAULTED entry (R82, R84). -/

namespace Sys2Proof.Machine

/-! ### Replies look at link and inbox alone -/

/-- Transmit order and inbox are the same. -/
structure SameLink (s t : State) : Prop where
  tx : t.tx = s.tx
  inbox : t.inbox = s.inbox

theorem SameLink.trans {s t u : State} (h : SameLink s t) (h' : SameLink t u) : SameLink s u :=
  ⟨h'.tx.trans h.tx, h'.inbox.trans h.inbox⟩

theorem SameLink.endRequest {s t : State} (h : SameLink s t) (st : Status) (payload : List Byte) (tag : Byte) :
    SameLink (endRequest st payload tag s) (endRequest st payload tag t) := by
  unfold Machine.endRequest place
  rw [h.inbox]
  split
  next => exact ⟨by rw [h.tx], rfl⟩
  next => exact h

theorem SameLink.endTags {s t : State} (h : SameLink s t) (st : Status) (payload tags : List Byte) :
    SameLink (endTags st payload tags s) (endTags st payload tags t) := by
  induction tags generalizing s t with
  | nil => exact h
  | cons g gs ih => exact ih (h.endRequest st payload g)

theorem endTags_append (st : Status) (payload as bs : List Byte) (s : State) :
    endTags st payload (as ++ bs) s = endTags st payload bs (endTags st payload as s) := List.foldl_append

theorem sameLink_finishJob (s : State) : SameLink s (finishJob s) := ⟨by simp, by simp⟩

theorem sameLink_removalEvent (n : SlotNo) (s : State) : SameLink s (removalEvent n s) :=
  ⟨by simp [removalEvent], by simp [removalEvent]⟩

/-! ### The jobs of the removed slot -/

/-- The waiting jobs that a removal leaves. -/
def keptJobs (n : SlotNo) (s : State) : List Job := s.jobs.filter fun j => slotOfWork j.work != some n

theorem slot_of_mem_keptJobs {n : SlotNo} {s : State} {j : Job} (h : j ∈ keptJobs n s) : slotOfWork j.work ≠ some n :=
  bne_iff_ne.mp (List.mem_filter.mp h).2

theorem removalEvent_jobs (n : SlotNo) (s : State) : (removalEvent n s).jobs = s.jobs := by simp [removalEvent]

theorem purgeJobs_jobs (n : SlotNo) (s : State) : (purgeJobs n s).jobs = keptJobs n s := rfl

/-- A job in a retry wait that is marked ends, any other takes the mark. -/
theorem markToStop_cases (g : InFlight) (s : State) :
    g.activity = .retryWait ∧ markToStop g s = endStopped g s ∨
      g.activity ≠ .retryWait ∧ markToStop g s = { s with inFlight := some { g with stopMark := true } } := by
  unfold markToStop
  split
  next h => exact .inl ⟨h, rfl⟩
  next h => exact .inr ⟨h, rfl⟩

/-- R85 to R87: after a removal the slot has no waiting job, and its job in flight is marked or abandoned. -/
theorem removal_jobs (n : SlotNo) (s : State) :
    ((removal n s).jobs = keptJobs n s ∨
      ∃ j, keptJobs n s = j :: (removal n s).jobs ∧ (removal n s).inFlight = some (launch j false)) ∧
    ∀ f, (removal n s).inFlight = some f → slotOfWork f.job.work = some n →
      f.stopMark = true ∨ f.activity = .stopCondition := by
  have hkept : (purgeJobs n (removalEvent n s)).jobs = keptJobs n s := by
    rw [purgeJobs_jobs, keptJobs, removalEvent_jobs, keptJobs]
  rcases flight_cases n s with hother | ⟨f, hf, hslot, hreading | hwrite⟩
  · rw [removal_of_other hother]
    refine ⟨.inl hkept, fun f hf hslot => ?_⟩
    rw [purgeJobs_inFlight, removalEvent_inFlight] at hf
    exact absurd hslot (hother f hf)
  · rw [removal_of_reading hf hslot hreading]
    rcases markToStop_cases { f with job := unclaimed f.job } (purgeJobs n (removalEvent n s)) with
      ⟨_, hended⟩ | ⟨_, hmarked⟩
    · rw [hended, endStopped]
      rcases finishJob_cases (endTags .removed [] (unclaimed f.job).tags (purgeJobs n (removalEvent n s))) with
        ⟨hnone, hjobs, hflight, _⟩ | ⟨j, hjobs, hflight, _⟩
      · rw [endTags_jobs, hkept] at hnone
        rw [hjobs, hflight, hnone]
        exact ⟨.inl rfl, fun _ h => nomatch h⟩
      · rw [endTags_jobs, hkept] at hjobs
        refine ⟨.inr ⟨j, hjobs, hflight⟩, fun g hg hgslot => ?_⟩
        obtain rfl := Option.some.inj (hflight.symm.trans hg)
        exact absurd hgslot (slot_of_mem_keptJobs (hjobs ▸ List.mem_cons_self))
    · rw [hmarked]
      exact ⟨.inl hkept, fun g hg _ => .inl (by rw [← Option.some.inj hg])⟩
  · rw [removal_of_write hf hslot hwrite]
    refine ⟨.inl ?_, fun g hg _ => .inr ?_⟩
    · rw [purgeJobs_jobs, keptJobs, endTags_jobs, removalEvent_jobs, keptJobs]
    · rw [purgeJobs_inFlight] at hg
      rw [← Option.some.inj hg]

/-! ### The replies of a removal (R162) -/

/-- The tag of a USER WRITE in flight for the slot. -/
def writeTags (n : SlotNo) (s : State) : List Byte :=
  (s.inFlight.toList.filter fun f => slotOfWork f.job.work == some n && !isReading f.job).flatMap fun f => f.job.tags

/-- The tags of the slot's waiting jobs. -/
def purgedTags (n : SlotNo) (s : State) : List Byte :=
  (s.jobs.filter fun j => slotOfWork j.work == some n).flatMap Job.tags

/-- The tags of a SCAN or MODULE READ of the slot in a retry wait. -/
def retryTags (n : SlotNo) (s : State) : List Byte :=
  (s.inFlight.toList.filter fun f =>
    slotOfWork f.job.work == some n && isReading f.job && f.activity == .retryWait).flatMap fun f => f.job.tags

section NoJob
variable {n : SlotNo} {s : State} (h : ∀ f, s.inFlight = some f → slotOfWork f.job.work ≠ some n)
include h

theorem writeTags_of_other : writeTags n s = [] := by
  cases hf : s.inFlight with
  | none => simp [writeTags, hf]
  | some f => simp [writeTags, hf, h f hf]

theorem retryTags_of_other : retryTags n s = [] := by
  cases hf : s.inFlight with
  | none => simp [retryTags, hf]
  | some f => simp [retryTags, hf, h f hf]

end NoJob

section SlotsJob
variable {n : SlotNo} {s : State} {f : InFlight} (hf : s.inFlight = some f) (hslot : slotOfWork f.job.work = some n)
include hf hslot

theorem writeTags_of_reading (hr : isReading f.job = true) : writeTags n s = [] := by simp [writeTags, hf, hslot, hr]

theorem writeTags_of_write (hr : isReading f.job = false) : writeTags n s = f.job.tags := by
  simp [writeTags, hf, hslot, hr]

theorem retryTags_of_write (hr : isReading f.job = false) : retryTags n s = [] := by simp [retryTags, hf, hslot, hr]

theorem retryTags_of_retryWait (hr : isReading f.job = true) (ha : f.activity = .retryWait) :
    retryTags n s = f.job.tags := by simp [retryTags, hf, hslot, hr, ha]

theorem retryTags_of_transaction (hr : isReading f.job = true) (ha : f.activity ≠ .retryWait) : retryTags n s = [] := by
  simp [retryTags, hf, hslot, hr, ha]

end SlotsJob

/-- The purge replies the tags of the slot's waiting jobs. -/
theorem sameLink_purgeJobs (n : SlotNo) {s t u : State} (h : SameLink s t) (hjobs : t.jobs = u.jobs) :
    SameLink (endTags .removed [] (purgedTags n u) s) (purgeJobs n t) := by
  have hpurge : purgedTags n u = purgedTags n t := by rw [purgedTags, purgedTags, hjobs]
  rw [hpurge]
  exact (h.endTags .removed [] (purgedTags n t)).trans ⟨rfl, rfl⟩

/-- R162, log 17: the write's tag, the waiting jobs' tags, the tags of a job that ends in its retry wait. -/
theorem sameLink_removal (n : SlotNo) (s : State) :
    SameLink (endTags .removed [] (writeTags n s ++ purgedTags n s ++ retryTags n s) s) (removal n s) := by
  have hpurged := sameLink_purgeJobs n (sameLink_removalEvent n s) (removalEvent_jobs n s)
  rcases flight_cases n s with hother | ⟨f, hf, hslot, hreading | hwrite⟩
  · rw [removal_of_other hother, writeTags_of_other hother, retryTags_of_other hother, List.append_nil, List.nil_append]
    exact hpurged
  · rw [removal_of_reading hf hslot hreading, writeTags_of_reading hf hslot hreading, List.nil_append]
    rcases markToStop_cases { f with job := unclaimed f.job } (purgeJobs n (removalEvent n s)) with
      ⟨ha, hended⟩ | ⟨ha, hmarked⟩
    · rw [hended, retryTags_of_retryWait hf hslot hreading ha, endTags_append]
      exact (hpurged.endTags .removed [] f.job.tags).trans (sameLink_finishJob _)
    · rw [hmarked, retryTags_of_transaction hf hslot hreading ha, List.append_nil]
      exact hpurged.trans ⟨rfl, rfl⟩
  · rw [removal_of_write hf hslot hwrite, writeTags_of_write hf hslot hwrite, retryTags_of_write hf hslot hwrite,
      List.append_nil, endTags_append]
    have habandoned : SameLink (endTags .removed [] f.job.tags s)
        { endTags .removed [] f.job.tags (removalEvent n s) with
          inFlight := some { f with job := { f.job with tags := [] }, activity := .stopCondition } } :=
      ((sameLink_removalEvent n s).endTags .removed [] f.job.tags).trans ⟨rfl, rfl⟩
    exact sameLink_purgeJobs n habandoned ((endTags_jobs ..).trans (removalEvent_jobs n s))

/-! ### The tags of bus jobs (R68, R159) -/

theorem Inv.distinctTags {s : State} (h : Inv s) : (s.inbox.map Outstanding.tag).Nodup := by
  obtain ⟨_, _, hdistinct, _⟩ := h.link
  exact hdistinct

theorem Inv.busTags_nodup {s : State} (h : Inv s) : (busTags s).Nodup :=
  h.claims.1.nodup_iff.mpr (h.distinctTags.sublist (List.filter_sublist.map Outstanding.tag))

theorem Inv.outstanding_of_busTags {s : State} (h : Inv s) {g : Byte} (hg : g ∈ busTags s) :
    g ∈ s.inbox.map Outstanding.tag :=
  (List.filter_sublist.map Outstanding.tag).subset (h.claims.1.subset hg)

theorem purgedTags_sublist (n : SlotNo) (s : State) : (purgedTags n s).Sublist (waitingTags s) :=
  List.filter_sublist.flatMap Job.tags

/-- The tags a removal replies are distinct tags of bus jobs. -/
theorem removedTags_fit {n : SlotNo} {s : State} (h : (busTags s).Nodup) :
    (writeTags n s ++ purgedTags n s ++ retryTags n s).Nodup ∧
      ∀ g ∈ writeTags n s ++ purgedTags n s ++ retryTags n s, g ∈ busTags s := by
  have hpurged := purgedTags_sublist n s
  have halone : (purgedTags n s).Nodup ∧ ∀ g ∈ purgedTags n s, g ∈ busTags s :=
    ⟨h.sublist (hpurged.trans (waitingTags_sublist_busTags s)),
      fun g hg => (waitingTags_sublist_busTags s).subset (hpurged.subset hg)⟩
  rcases flight_cases n s with hother | ⟨f, hf, hslot, hr⟩
  · rw [writeTags_of_other hother, retryTags_of_other hother, List.append_nil, List.nil_append]
    exact halone
  · have hboth : (purgedTags n s ++ f.job.tags).Sublist (busTags s) := by
      rw [busTags_eq_append hf]
      exact hpurged.append_right f.job.tags
    rcases hr with hreading | hwrite
    · rw [writeTags_of_reading hf hslot hreading, List.nil_append]
      by_cases ha : f.activity = .retryWait
      · rw [retryTags_of_retryWait hf hslot hreading ha]
        exact ⟨h.sublist hboth, fun g hg => hboth.subset hg⟩
      · rw [retryTags_of_transaction hf hslot hreading ha, List.append_nil]
        exact halone
    · rw [writeTags_of_write hf hslot hwrite, retryTags_of_write hf hslot hwrite, List.append_nil]
      refine ⟨List.perm_append_comm.nodup_iff.mp (h.sublist hboth), fun g hg => hboth.subset ?_⟩
      exact List.perm_append_comm.subset hg

/-- Settles O8: the removal's jobs, and its replies, by the job in flight of the slot. -/
theorem removalEndsTheSlotsJobs : Obligations.RemovalEndsTheSlotsJobs := by
  have hexec {n : SlotNo} {s : State} (hrun : s.resetAsserted = false) (hst : occupied (s.slots.get n).state = true) :
      exec (.presenceHigh n) s = .next (removal n { s with pres := s.pres.set n true }) := by
    rw [exec_presenceHigh n hrun, presenceHigh_of_occupied (by exact hst)]
  refine ⟨fun n s hrun hst => ⟨_, hexec hrun hst, removal_jobs n { s with pres := s.pres.set n true }⟩,
    fun n s h hrun hst => ⟨_, hexec hrun hst, ?_⟩⟩
  intro write waiting retry ended
  obtain ⟨hnodup, hmem⟩ := removedTags_fit (n := n) h.busTags_nodup
  have hended : endTags .removed [] (write ++ waiting ++ retry) s = ended :=
    endTags_replied .removed [] _ s hnodup h.distinctTags fun g hg => h.outstanding_of_busTags (hmem g hg)
  have hlink := sameLink_removal n { s with pres := s.pres.set n true }
  have hpres : SameLink s { s with pres := s.pres.set n true } := ⟨rfl, rfl⟩
  have hall := (hpres.endTags .removed [] (write ++ waiting ++ retry)).trans hlink
  rw [hended] at hall
  exact ⟨hall.tx, hall.inbox⟩

end Sys2Proof.Machine
end

section
/-! The FAULTED entry (R82, R84): one slot event of the slots whose presence scans waited. -/

namespace Sys2Proof.Machine

/-! ### Notices and staleness do not look at slots, bus and link -/

/-- The state with slot records, bus, queue, transmit order and inbox of another. -/
def withBusOf (u s : State) : State :=
  { s with slots := u.slots, bus := u.bus, jobs := u.jobs, inFlight := u.inFlight, tx := u.tx, inbox := u.inbox }

theorem raise_withBusOf (b : NoticeBody) (u s : State) : raise b (withBusOf u s) = withBusOf u (raise b s) := by
  unfold raise intake
  rw [show (withBusOf u s).notices = s.notices from rfl]
  split
  next => rfl
  next => split <;> rfl

theorem raiseAll_withBusOf (bs : List NoticeBody) (u s : State) :
    raiseAll bs (withBusOf u s) = withBusOf u (raiseAll bs s) := by
  induction bs generalizing s with
  | nil => rfl
  | cons b bs ih =>
    rw [raiseAll, List.foldl_cons, raise_withBusOf]
    exact ih (raise b s)

theorem staleSlots_withBusOf (hit : SlotNo → Bool) (u s : State) :
    staleSlots hit (withBusOf u s) = withBusOf u (staleSlots hit s) :=
  raiseAll_withBusOf _ u { s with entries := s.entries.map (staleEntry hit) }

/-! ### Scans that fail together -/

/-- The records of failed scans, before clash sets and generations (R53). -/
def failedSlots (ns : List SlotNo) (c : UnreadableCause) (v : Eight Slot) : Eight Slot :=
  Eight.ofFn fun n => if ns.contains n then failedSlot c (v.get n) else v.get n

theorem failScans_eq (ns : List SlotNo) (c : UnreadableCause) (s : State) :
    failScans ns c s = slotEvent (fun n => ns.contains n) (failedSlots ns c s.slots)
      (ns.map fun n => .scanDone n .unreadable) s := rfl

theorem failedSlots_get_of_mem {ns : List SlotNo} {n : SlotNo} (h : ns.contains n = true) (c : UnreadableCause)
    (v : Eight Slot) : (failedSlots ns c v).get n = failedSlot c (v.get n) := by
  rw [failedSlots, Eight.get_ofFn, if_pos h]

theorem failedSlots_get_of_not_mem {ns : List SlotNo} {n : SlotNo} (h : ns.contains n = false) (c : UnreadableCause)
    (v : Eight Slot) : (failedSlots ns c v).get n = v.get n := by
  rw [failedSlots, Eight.get_ofFn, h, if_neg Bool.false_ne_true]

theorem failedSlots_gen (ns : List SlotNo) (c : UnreadableCause) (v : Eight Slot) (n : SlotNo) :
    ((failedSlots ns c v).get n).gen = (v.get n).gen := by
  cases h : ns.contains n with
  | true => rw [failedSlots_get_of_mem h]; rfl
  | false => rw [failedSlots_get_of_not_mem h]

/-- A clash set after failed scans, for the slots that stay: the others that stay, with the same key. -/
theorem clashOf_failedSlots {ns : List SlotNo} {n : SlotNo} (h : ns.contains n = false) (c : UnreadableCause)
    (v : Eight Slot) : clashOf (failedSlots ns c v) n =
      allSlots.filter fun k => k != n && !ns.contains k && (v.get n).key.isSome && (v.get k).key == (v.get n).key := by
  have hkey : ((failedSlots ns c v).get n).key = (v.get n).key := by rw [failedSlots_get_of_not_mem h]
  cases hn : (v.get n).key with
  | none => simp [clashOf_of_key_none (hkey.trans hn)]
  | some key =>
    rw [clashOf_of_key_some (hkey.trans hn)]
    refine List.filter_congr fun k _ => ?_
    rw [Option.isSome_some, Bool.and_true]
    cases hk : ns.contains k with
    | true => simp [failedSlots_get_of_mem hk, failedSlot, discardImage]
    | false => simp [failedSlots_get_of_not_mem hk]

section Failed
variable {ns : List SlotNo} {n : SlotNo} (c : UnreadableCause) (s : State)

theorem failScans_get_of_mem (h : ns.contains n = true) :
    (failScans ns c s).slots.get n =
      { s.slots.get n with
        state := .unreadable, cause := some c, image := none, faults := [], more := false, key := none, clash := []
        gen := (s.slots.get n).gen + 1 } := by
  have hkey : ((failedSlots ns c s.slots).get n).key = none := by rw [failedSlots_get_of_mem h]; rfl
  rw [failScans_eq, slotEvent_slots, commitSlots_get, incremented_eq, h, Bool.true_or, if_pos rfl, clashOf_of_key_none hkey,
    failedSlots_get_of_mem h]
  rfl

theorem failScans_get_of_not_mem (h : ns.contains n = false) :
    (failScans ns c s).slots.get n =
      { s.slots.get n with
        clash := clashOf (failedSlots ns c s.slots) n
        gen := if (s.slots.get n).clash.isEmpty = (clashOf (failedSlots ns c s.slots) n).isEmpty then (s.slots.get n).gen
          else (s.slots.get n).gen + 1 } := by
  rw [failScans_eq, slotEvent_get_of_unchanged _ h (failedSlots_get_of_not_mem h c s.slots)]

end Failed

/-- Failed scans are their notices, then the staleness of the slots whose generation they changed. -/
theorem failScans_report (ns : List SlotNo) (c : UnreadableCause) (s : State) :
    failScans ns c s =
      { staleSlots (fun m => ((failScans ns c s).slots.get m).gen != (s.slots.get m).gen)
          (raiseAll (ns.map fun n => .scanDone n .unreadable) s) with slots := (failScans ns c s).slots } := by
  rw [failScans_eq, slotEvent_gen_ne _ (failedSlots_gen ns c s.slots), slotEvent_eq, staleSlots_frame, raiseAll_frame]
  rfl

/-- The same where slots, bus and link are not those of the state that reports. -/
theorem failScans_withBusOf (ns : List SlotNo) (c : UnreadableCause) (u s : State) :
    failScans ns c (withBusOf u s) = withBusOf (failScans ns c (withBusOf u s))
      (staleSlots (fun m => ((failScans ns c (withBusOf u s)).slots.get m).gen != (u.slots.get m).gen)
        (raiseAll (ns.map fun n => .scanDone n .unreadable) s)) := by
  have hreport := failScans_report ns c (withBusOf u s)
  rw [raiseAll_withBusOf, staleSlots_withBusOf] at hreport
  refine hreport.trans ?_
  rw [failScans_frame ns c (withBusOf u s)]
  rfl

/-! ### The entry -/

/-- The FAULTED bus, its waiting jobs ended (R82). -/
def queueFailed (s : State) : State :=
  endTags .busFault [] (s.jobs.flatMap Job.tags) { s with bus := .faulted, inFlight := none, jobs := [] }

/-- The entry's last notice, where it is announced (R82, R84). -/
def announceFault (announce : Bool) (s : State) : State := if announce = true then raise .busFaulted s else s

theorem enterFaulted_eq (announce : Bool) (s : State) :
    enterFaulted announce s = announceFault announce (failScans (presenceScanSlots s.jobs) .bus (queueFailed s)) := rfl

theorem announceFault_withBusOf (announce : Bool) (u s : State) :
    announceFault announce (withBusOf u s) = withBusOf u (announceFault announce s) := by
  unfold announceFault
  split
  next => exact raise_withBusOf ..
  next => rfl

theorem queueFailed_withBusOf (s : State) : queueFailed s = withBusOf (queueFailed s) s := by
  rw [queueFailed, endTags_frame]
  rfl

theorem queueFailed_slots (s : State) : (queueFailed s).slots = s.slots := by rw [queueFailed, endTags_slots]

/-- The entry leaves slots, bus, queue and link as the failed scans leave them. -/
theorem enterFaulted_withBusOf (announce : Bool) (s : State) :
    enterFaulted announce s =
      withBusOf (failScans (presenceScanSlots s.jobs) .bus (queueFailed s)) (enterFaulted announce s) := by
  rw [enterFaulted_eq, announceFault]
  split
  next => rw [raise_frame]; rfl
  next => rfl

/-- The slots of the waiting presence scans are those a SCAN with a presence claim waits for. -/
theorem contains_presenceScanSlots (js : List Job) (n : SlotNo) :
    (presenceScanSlots js).contains n = js.any fun j => j.work == .scan n && j.presence := by
  rw [Bool.eq_iff_iff, List.contains_iff_mem, mem_presenceScanSlots, List.any_eq_true]
  simp only [Bool.and_eq_true, beq_iff_eq]

/-- The notices of the failed presence scans, oldest first. -/
theorem map_presenceScanSlots (js : List Job) :
    ((presenceScanSlots js).map fun n => NoticeBody.scanDone n .unreadable) = js.filterMap fun j =>
      match j.work with
      | .scan n => if j.presence = true then some (NoticeBody.scanDone n .unreadable) else none
      | _ => none := by
  rw [presenceScanSlots, List.map_filterMap]
  refine congrArg (js.filterMap ·) (funext fun j => ?_)
  cases j.work with
  | scan n => cases j.presence <;> rfl
  | _ => rfl

/-- Settles O18: the replies, the records slot by slot, and the notices, of the failed scans as one event. -/
theorem faultedEntryFailsTheQueue : Obligations.FaultedEntryFailsTheQueue := by
  intro announce s hlink hnodup hmem t replied failing done reported announced
  obtain ⟨_, _, hdistinct, _⟩ := hlink
  have hfailing (n : SlotNo) : failing n = (presenceScanSlots s.jobs).contains n := (contains_presenceScanSlots s.jobs n).symm
  have hreplied : queueFailed s = repliedTags .busFault [] (s.jobs.flatMap Job.tags)
      { s with bus := .faulted, inFlight := none, jobs := [] } :=
    endTags_replied .busFault [] _ { s with bus := .faulted, inFlight := none, jobs := [] } hnodup hdistinct hmem
  have hleft : t = withBusOf (failScans (presenceScanSlots s.jobs) .bus (queueFailed s)) t := enterFaulted_withBusOf announce s
  have hslots : t.slots = (failScans (presenceScanSlots s.jobs) .bus (queueFailed s)).slots := by rw [hleft]; rfl
  refine ⟨?_, enterFaulted_jobs announce s, enterFaulted_inFlight announce s, ?_, ?_, fun n hn => ?_, fun n hn => ?_, ?_⟩
  · rw [hleft, hreplied]
    simp [withBusOf, repliedTags]
  · rw [hleft, hreplied]
    simp [withBusOf, replied, repliedTags, kindOf]
  · rw [hleft, hreplied]
    simp [withBusOf, replied, repliedTags]
  · rw [hslots, failScans_get_of_mem _ _ ((hfailing n).symm.trans hn), queueFailed_slots]
  · rw [hslots, failScans_get_of_not_mem _ _ ((hfailing n).symm.trans hn), queueFailed_slots,
      clashOf_failedSlots ((hfailing n).symm.trans hn)]
    simp only [hfailing]
  · have hfailed : failScans (presenceScanSlots s.jobs) .bus (queueFailed s) =
        withBusOf (failScans (presenceScanSlots s.jobs) .bus (queueFailed s)) reported := by
      have h := failScans_withBusOf (presenceScanSlots s.jobs) .bus (queueFailed s) s
      rw [← queueFailed_withBusOf, map_presenceScanSlots, queueFailed_slots, ← hslots] at h
      exact h
    have ht : t = withBusOf (failScans (presenceScanSlots s.jobs) .bus (queueFailed s)) announced := by
      rw [show t = enterFaulted announce s from rfl, enterFaulted_eq, hfailed, announceFault_withBusOf]
      rfl
    rw [ht]
    rfl

end Sys2Proof.Machine
end

section
/-! CANCEL (R88, R89, R146, R163): what a taken one does, by where the tag it names stands. -/

namespace Sys2Proof.Machine

/-! ### Where a claim stands (R68, R159) -/

theorem tag_of_find {s : State} {g : Byte} {o : Outstanding} (h : (s.inbox.find? fun o => o.tag == g) = some o) :
    o.tag = g := by simpa using List.find?_some h

/-- The request that holds a tag with a claim of one form, in an inbox without a repeated tag. -/
theorem find_of_mem_claimTags {s : State} (hd : (s.inbox.map Outstanding.tag).Nodup) {c : Claim} {g : Byte}
    (h : g ∈ claimTags c s) : ∃ o, (s.inbox.find? fun o => o.tag == g) = some o ∧ o.claim = c := by
  obtain ⟨o, ho, hclaim, htag⟩ := mem_claimTags.mp h
  obtain ⟨x, hx⟩ : ∃ x, (s.inbox.find? fun o => o.tag == g) = some x :=
    Option.isSome_iff_exists.mp (List.find?_isSome.mpr ⟨o, ho, beq_iff_eq.mpr htag⟩)
  have hxo : x = o := List.inj_on_of_nodup_map hd (List.mem_of_find?_eq_some hx) ho ((tag_of_find hx).trans htag.symm)
  exact ⟨x, hx, hxo ▸ hclaim⟩

theorem Inv.bus_of_mem_busTags {s : State} (h : Inv s) {g : Byte} (hg : g ∈ busTags s) :
    ∃ o, (s.inbox.find? fun o => o.tag == g) = some o ∧ o.claim = .busJob :=
  find_of_mem_claimTags h.distinctTags (h.claims.1.subset hg)

theorem Inv.profile_of_mem {s : State} (h : Inv s) {e : Entry} (he : e ∈ s.entries) {g : Byte} (hg : requestTag e = some g) :
    ∃ o, (s.inbox.find? fun o => o.tag == g) = some o ∧ o.claim = .profile :=
  find_of_mem_claimTags h.distinctTags (h.claims.2.subset (List.mem_filterMap.mpr ⟨e, he, hg⟩))

/-- A request tag tells its entry. -/
theorem Inv.entryOfTag_eq {s : State} (h : Inv s) {e : Entry} (he : e ∈ s.entries) {g : Byte} (hg : requestTag e = some g) :
    entryOfTag s g = some e := by
  have hnodup : (profileTags s).Nodup :=
    h.claims.2.nodup_iff.mpr (h.distinctTags.sublist (List.filter_sublist.map Outstanding.tag))
  obtain ⟨x, hx⟩ : ∃ x, entryOfTag s g = some x :=
    Option.isSome_iff_exists.mp (List.find?_isSome.mpr ⟨e, he, beq_iff_eq.mpr hg⟩)
  have hxtag : requestTag x = some g := by simpa using List.find?_some hx
  rw [hx, eq_of_nodup_filterMap hnodup (List.mem_of_find?_eq_some hx) he hxtag hg]

/-! ### The owner, by the claim -/

theorem exec_cancel_taken {tag : Byte} {s : State} (h : Taken s tag 0x31) (payload : List Byte) :
    exec (.cancel tag payload) s = .next (ownCancel tag payload s) :=
  congrArg Host.Outcome.next (acceptFrame_taken (kind := kindCancel) (ownCancel tag payload) h (by decide))

theorem oneByteArg_of_length_ne {p : List Byte} (h : p.length ≠ 1) : oneByteArg p = none := by
  match p, h with
  | [], _ => rfl
  | [_], h => exact absurd rfl h
  | _ :: _ :: _, _ => rfl

theorem ownCancel_malformed {p : List Byte} (h : p.length ≠ 1) (tag : Byte) (s : State) :
    ownCancel tag p s = withReply tag 0x31 .badArgument [] s := by
  rw [ownCancel, oneByteArg_of_length_ne h]
  rfl

theorem ownCancel_absent {g : Byte} {s : State} (h : ∀ o ∈ s.inbox, o.tag ≠ g) (tag : Byte) :
    ownCancel tag [g] s = withReply tag 0x31 .notFound [] s := by
  have hnone : (s.inbox.find? fun o => o.tag == g) = none := by simpa using h
  simp only [ownCancel, oneByteArg, hnone]
  rfl

theorem ownCancel_bus {g : Byte} {s : State} {o : Outstanding} (ho : (s.inbox.find? fun o => o.tag == g) = some o)
    (hclaim : o.claim = .busJob) (tag : Byte) : ownCancel tag [g] s = cancelJob tag g s := by
  simp only [ownCancel, oneByteArg, ho, hclaim]

theorem ownCancel_profile {g : Byte} {s : State} {o : Outstanding} (ho : (s.inbox.find? fun o => o.tag == g) = some o)
    (hclaim : o.claim = .profile) (tag : Byte) : ownCancel tag [g] s = cancelResolve tag g s := by
  simp only [ownCancel, oneByteArg, ho, hclaim]

/-! ### What each withdrawal leaves -/

/-- One outstanding request ended is one tag replied. -/
theorem endRequest_replied {g : Byte} {s : State} (hd : (s.inbox.map Outstanding.tag).Nodup) {o : Outstanding}
    (ho : (s.inbox.find? fun o => o.tag == g) = some o) (st : Status) (payload : List Byte) :
    endRequest st payload g s = repliedTags st payload [g] s := by
  have hmem : g ∈ s.inbox.map Outstanding.tag :=
    List.mem_map.mpr ⟨o, List.mem_of_find?_eq_some ho, tag_of_find ho⟩
  exact endTags_replied st payload [g] s (List.nodup_singleton g) hd fun x hx => List.mem_singleton.mp hx ▸ hmem

theorem cancelInFlight_reading {f : InFlight} (hr : isReading f.job = true) (tag t : Byte) (s : State) :
    cancelInFlight tag t f s = dropFlightClaim t f (cancelledThenOk tag t s) := by
  unfold cancelInFlight
  split
  next => rfl
  next => rfl
  next hwork => simp [isReading, hwork] at hr
  next hwork => simp [isReading, hwork] at hr

theorem cancelInFlight_not_reading {f : InFlight} (hr : isReading f.job = false) (tag t : Byte) (s : State) :
    cancelInFlight tag t f s = withReply tag 0x31 .tooLate [] s := by
  unfold cancelInFlight
  split
  next hwork => simp [isReading, hwork] at hr
  next hwork => simp [isReading, hwork] at hr
  next => rfl
  next => rfl

/-- A tag of the job in flight is on no waiting job. -/
theorem cancelJob_flight {s : State} {f : InFlight} {g : Byte} (hf : s.inFlight = some f) (hd : (busTags s).Nodup)
    (hg : g ∈ f.job.tags) (tag : Byte) : cancelJob tag g s = cancelInFlight tag g f s := by
  rw [busTags_eq_append hf] at hd
  have hnone : ¬ (s.jobs.any fun j => j.tags.contains g) = true := fun h => by
    obtain ⟨j, hj, hwaits⟩ := List.any_eq_true.mp h
    have hwaiting : g ∈ waitingTags s := List.mem_flatMap.mpr ⟨j, hj, List.contains_iff_mem.mp hwaits⟩
    exact List.disjoint_of_nodup_append hd hwaiting hg
  rw [cancelJob, if_neg hnone]
  simp only [hf, List.contains_iff_mem.mpr hg, if_true]

/-- Another claim keeps the job in flight. -/
theorem dropFlightClaim_kept {f : InFlight} {g : Byte} (hg : g ∈ f.job.tags)
    (hkept : f.job.presence = true ∨ f.job.tags ≠ [g]) (s : State) :
    dropFlightClaim g f s = { s with inFlight := some { f with job := { f.job with tags := f.job.tags.erase g } } } := by
  have hclaim : ¬ claimless { f.job with tags := f.job.tags.erase g } = true := fun h => by
    simp only [claimless, Bool.and_eq_true, List.isEmpty_iff, Bool.not_eq_true'] at h
    obtain ⟨herased, hnone⟩ := h
    refine hkept.elim (fun hpresence => Bool.false_ne_true (hnone.symm.trans hpresence)) fun hother => hother ?_
    exact (List.erase_eq_nil_iff.mp herased).resolve_left (List.ne_nil_of_mem hg)
  exact if_neg hclaim

/-- Without another claim the job in flight is stopped. -/
theorem dropFlightClaim_last {f : InFlight} {g : Byte} (hpresence : f.job.presence = false) (htags : f.job.tags = [g])
    (s : State) :
    dropFlightClaim g f s = markToStop { f with job := { f.job with tags := f.job.tags.erase g } } s := by
  have hclaim : claimless { f.job with tags := f.job.tags.erase g } = true := by
    simp [claimless, hpresence, htags]
  exact if_pos hclaim

section Replied
variable {g : Byte} {s : State} (hd : (s.inbox.map Outstanding.tag).Nodup) {o : Outstanding}
  (ho : (s.inbox.find? fun o => o.tag == g) = some o) (tag : Byte)
include hd ho

theorem cancelledThenOk_replied :
    cancelledThenOk tag g s = withReply tag 0x31 .ok [] (repliedTags .cancelled [] [g] s) := by
  rw [cancelledThenOk, endRequest_replied hd ho]
  rfl

/-- R88: the claim leaves the waiting jobs, and those left without one leave the queue. -/
theorem cancelJob_waiting (hwaits : ∃ j ∈ s.jobs, g ∈ j.tags) :
    cancelJob tag g s = { withReply tag 0x31 .ok [] (repliedTags .cancelled [] [g] s) with
      jobs := (s.jobs.map fun j => { j with tags := j.tags.erase g }).filter fun j => !j.tags.isEmpty || j.presence } := by
  have hany : (s.jobs.any fun j => j.tags.contains g) = true := by simpa using hwaits
  have hdrop : dropClaim g s.jobs =
      (s.jobs.map fun j => { j with tags := j.tags.erase g }).filter fun j => !j.tags.isEmpty || j.presence := by
    refine List.filter_congr fun j _ => ?_
    rw [claimless, Bool.not_and, Bool.not_not]
  rw [cancelJob, if_pos hany, hdrop, cancelledThenOk_replied (by exact hd) (by exact ho)]
  rfl

/-- R146: a QUEUED entry is dropped. -/
theorem dropEntry_queued {e : Entry} (he : e.state = .queued g) :
    dropEntry e s = repliedTags .cancelled [e.handle] [g]
      { s with entries := s.entries.filter fun x => x.handle != e.handle } := by
  simp only [dropEntry, he]
  rw [endRequest_replied hd ho]
  rfl

/-- R109, R146: a BUILDING entry is dropped, and the Resolver takes the next. -/
theorem dropEntry_building {e : Entry} {sn : Snapshot} (he : e.state = .building g sn) :
    dropEntry e s = handOver { repliedTags .cancelled [e.handle] [g]
      { s with entries := s.entries.filter fun x => x.handle != e.handle } with work := none } := by
  simp only [dropEntry, he]
  rw [endRequest_replied hd ho]
  rfl

end Replied

theorem cancelResolve_of_entry {s : State} {g : Byte} {e : Entry} (h : entryOfTag s g = some e) (tag : Byte) :
    cancelResolve tag g s = withReply tag 0x31 .ok [] (dropEntry e s) := by
  simp only [cancelResolve, h]
  rfl

/-- Settles O50: the claim tells the owner, and the owner finds the tag where the claims agree it stands. -/
theorem cancelWithdrawsTheRequest : Obligations.CancelWithdrawsTheRequest := by
  intro tag g s htaken h run replied
  have hrun : run = .next (ownCancel tag [g] s) := exec_cancel_taken htaken [g]
  refine ⟨fun habsent => ?_, fun hwaits => ?_, fun f hf hg => ?_, fun e he => ?_, fun p hp => ?_⟩
  · rw [hrun, ownCancel_absent habsent]
  · obtain ⟨j, hj, hgj⟩ := hwaits
    have hmem : g ∈ busTags s := (waitingTags_sublist_busTags s).subset (List.mem_flatMap.mpr ⟨j, hj, hgj⟩)
    obtain ⟨o, ho, hclaim⟩ := h.bus_of_mem_busTags hmem
    rw [hrun, ownCancel_bus ho hclaim, cancelJob_waiting h.distinctTags ho tag ⟨j, hj, hgj⟩]
  · intro left
    have hmem : g ∈ busTags s := by
      rw [busTags_eq_append hf]
      exact List.mem_append_right _ hg
    obtain ⟨o, ho, hclaim⟩ := h.bus_of_mem_busTags hmem
    rw [hrun, ownCancel_bus ho hclaim, cancelJob_flight hf h.busTags_nodup hg]
    refine ⟨fun hr => ?_, fun hr => by rw [cancelInFlight_not_reading hr]⟩
    rw [cancelInFlight_reading hr, cancelledThenOk_replied h.distinctTags ho]
    refine ⟨fun hkept => ?_, fun hpresence htags ha => ?_, fun hpresence htags ha => ?_⟩
    · rw [dropFlightClaim_kept hg hkept]
    · rw [dropFlightClaim_last hpresence htags, markToStop, if_neg ha]
    · rw [dropFlightClaim_last hpresence htags, markToStop, if_pos ha, endStopped, htags, List.erase_cons_head]
      rfl
  · intro freed
    refine ⟨fun hst => ?_, fun sn hst => ?_⟩
    · have hg : requestTag e = some g := by rw [requestTag, hst]
      obtain ⟨o, ho, hclaim⟩ := h.profile_of_mem he hg
      rw [hrun, ownCancel_profile ho hclaim, cancelResolve_of_entry (h.entryOfTag_eq he hg),
        dropEntry_queued h.distinctTags ho hst]
    · have hg : requestTag e = some g := by rw [requestTag, hst]
      obtain ⟨o, ho, hclaim⟩ := h.profile_of_mem he hg
      rw [hrun, ownCancel_profile ho hclaim, cancelResolve_of_entry (h.entryOfTag_eq he hg),
        dropEntry_building h.distinctTags ho hst]
  · rw [exec_cancel_taken htaken, ownCancel_malformed hp]

end Sys2Proof.Machine
end

section
/-! The Target Record and the period ladder (R93 to R101, R205): what their payloads say, and what SET TARGET does. -/

namespace Sys2Proof.Machine

/-! ### Single bytes -/

theorem toNat_byte {n : Nat} (h : n < 0x100) : (byte n).toNat = n := by
  rw [byte, BitVec.toNat_ofNat, Nat.mod_eq_of_lt h]

theorem eq_byte_of_toNat {b : Byte} {n : Nat} (h : b.toNat = n) : b = byte n := by rw [← h, byte_toNat]

/-- A boolean's byte is the only one that reads as it (R202). -/
theorem boolArg_eq_some_iff {b : Byte} {v : Bool} : boolArg b = some v ↔ b = boolByte v := by
  refine ⟨fun h => ?_, fun h => ?_⟩
  · unfold boolArg at h
    split at h
    next hb =>
      cases h
      exact eq_byte_of_toNat hb
    next hb =>
      cases h
      exact eq_byte_of_toNat hb
    next => exact nomatch h
  · cases v <;> exact h ▸ rfl

/-- An expected width's code is the only byte that reads as it (R204). -/
theorem expectedWidthArg_eq_some_iff {b : Byte} {w : Option Width} :
    expectedWidthArg b = some w ↔ b = expectedWidthCode w := by
  refine ⟨fun h => ?_, fun h => ?_⟩
  · unfold expectedWidthArg at h
    split at h
    iterate 4
      next hb =>
        cases h
        exact eq_byte_of_toNat hb
    next => exact nomatch h
  · rcases w with _ | w
    · exact h ▸ rfl
    · cases w <;> exact h ▸ rfl

/-! ### The Target Record (R93, R95, R205) -/

/-- Every field of a record in range fits its place in the payload. -/
theorem targetOk_fits {t : Target} (h : targetOk t = true) :
    t.periodMin < 0x10000 ∧ t.periodMax < 0x10000 ∧ t.latencyMin < 0x100 ∧ t.latencyMax < 0x100 ∧
      (∀ f ∈ nineList t.floors, f < 0x100) ∧ t.allowance < 0x100 := by
  simp only [targetOk, Bool.and_eq_true, decide_eq_true_eq, List.all_eq_true] at h
  obtain ⟨⟨⟨⟨⟨⟨⟨⟨_, hmin⟩, _⟩, hmax⟩, _⟩, hlmin⟩, hlmax⟩, hfloors⟩, hallow⟩ := h
  exact ⟨by omega, by omega, by omega, by omega, fun f hf => by have := hfloors f hf; omega, by omega⟩

theorem floorsOf_byte {f : Nine Nat} (h : ∀ x ∈ nineList f, x < 0x100) :
    floorsOf { opn := byte f.opn, cls := byte f.cls, hld := byte f.hld, cyc := byte f.cyc, rfr := byte f.rfr
               trn := byte f.trn, rcl := byte f.rcl, wrc := byte f.wrc, win := byte f.win } = f := by
  simp only [nineList, List.forall_mem_cons] at h
  obtain ⟨hopn, hcls, hhld, hcyc, hrfr, htrn, hrcl, hwrc, hwin, _⟩ := h
  simp only [floorsOf, toNat_byte, *]

/-- A record in range is read back from its eighteen bytes. -/
theorem targetArg_targetPayload {t : Target} (h : targetOk t = true) : targetArg (targetPayload t) = some t := by
  obtain ⟨hmin, hmax, hlmin, hlmax, hfloors, hallow⟩ := targetOk_fits h
  have hwidth := expectedWidthArg_eq_some_iff.mpr (rfl : expectedWidthCode t.expectedWidth = _)
  have hreq := boolArg_eq_some_iff.mpr (rfl : boolByte t.requireBudget = _)
  simp only [targetPayload, nineList, le2, List.map_cons, List.map_nil, List.cons_append, List.nil_append, targetArg,
    hwidth, hreq, ofLe2_le2 _ hmin, ofLe2_le2 _ hmax, toNat_byte hlmin, toNat_byte hlmax, floorsOf_byte hfloors,
    toNat_byte hallow]
  exact if_pos h

/-- What SET TARGET accepts is a record in range, sent as GET TARGET shows it. -/
theorem targetArg_eq_some_iff {p : List Byte} {t : Target} :
    targetArg p = some t ↔ targetOk t = true ∧ p = targetPayload t := by
  refine ⟨fun h => ?_, fun ⟨hok, hp⟩ => hp ▸ targetArg_targetPayload hok⟩
  unfold targetArg at h
  split at h
  next =>
    split at h
    next hwidth hreq =>
      obtain ⟨hok, ⟨⟩⟩ := Option.ite_none_right_eq_some.mp h
      refine ⟨hok, ?_⟩
      simp only [targetPayload, nineList, floorsOf, List.map_cons, List.map_nil, le2_ofLe2, byte_toNat,
        expectedWidthArg_eq_some_iff.mp hwidth,
        boolArg_eq_some_iff.mp hreq]
      rfl
    next => exact nomatch h
  next => exact nomatch h

theorem targetPayload_length (t : Target) : (targetPayload t).length = 18 := rfl

/-! ### The ladder (R99, R100, R205) -/

theorem flatMap_le2_length (ps : List Nat) : (ps.flatMap le2).length = 2 * ps.length := by
  simp [List.length_flatMap, Nat.mul_comm]

/-- Two-byte values are read back as they were written. -/
theorem words_flatMap_le2 {ps : List Nat} (h : ∀ q ∈ ps, q < 0x10000) : words (ps.flatMap le2) = ps := by
  induction ps with
  | nil => rfl
  | cons q qs ih =>
    obtain ⟨hq, hqs⟩ := List.forall_mem_cons.mp h
    exact congrArg₂ List.cons (ofLe2_le2 q hq) (ih hqs)

/-- An even number of bytes is written back as it was read. -/
theorem flatMap_le2_words {bs : List Byte} {k : Nat} (h : bs.length = 2 * k) : (words bs).flatMap le2 = bs := by
  induction k generalizing bs with
  | zero => rw [List.eq_nil_of_length_eq_zero h]; rfl
  | succ k ih =>
    match bs, h with
    | b0 :: b1 :: rest, h =>
      have hrest : (words rest).flatMap le2 = rest := ih (by simpa [Nat.mul_succ] using h)
      rw [words, List.flatMap_cons, le2_ofLe2, hrest]
      rfl

theorem ladderOk_fits {ps : List Nat} (h : ladderOk ps = true) : ps.length < 0x100 ∧ ∀ q ∈ ps, q < 0x10000 := by
  simp only [ladderOk, periodOk, Bool.and_eq_true, decide_eq_true_eq, List.all_eq_true] at h
  obtain ⟨⟨⟨_, hlength⟩, hrange⟩, _⟩ := h
  exact ⟨Nat.lt_of_le_of_lt hlength (by decide), fun q hq => by have := hrange q hq; omega⟩

/-- A ladder in range is read back from its count and periods. -/
theorem ladderArg_ladderPayload {ps : List Nat} (h : ladderOk ps = true) : ladderArg (ladderPayload ps) = some ps := by
  obtain ⟨hlength, hrange⟩ := ladderOk_fits h
  rw [ladderPayload, ladderArg, toNat_byte hlength, if_pos (flatMap_le2_length ps), words_flatMap_le2 hrange, if_pos h]

/-- What SET LADDER accepts is a ladder in range, sent as GET LADDER shows it. -/
theorem ladderArg_eq_some_iff {p : List Byte} {ps : List Nat} :
    ladderArg p = some ps ↔ ladderOk ps = true ∧ p = ladderPayload ps := by
  refine ⟨fun h => ?_, fun ⟨hok, hp⟩ => hp ▸ ladderArg_ladderPayload hok⟩
  unfold ladderArg at h
  split at h
  next n rest =>
    obtain ⟨hlength, hread⟩ := Option.ite_none_right_eq_some.mp h
    obtain ⟨hok, ⟨⟩⟩ := Option.ite_none_right_eq_some.mp hread
    have hrest : (words rest).flatMap le2 = rest := flatMap_le2_words hlength
    have hcount : (words rest).length = n.toNat := by
      have := flatMap_le2_length (words rest)
      rw [hrest] at this
      omega
    exact ⟨hok, by rw [ladderPayload, hcount, byte_toNat, hrest]⟩
  next => exact nomatch h

theorem ladderPayload_length (ps : List Nat) : (ladderPayload ps).length = 1 + 2 * ps.length := by
  rw [ladderPayload, List.length_cons, flatMap_le2_length, Nat.add_comm]

/-- Settles O35: the payloads and the records in range read and write one another. -/
theorem settingsLayouts : Obligations.SettingsLayouts :=
  ⟨fun _ _ => targetArg_eq_some_iff, targetPayload_length, fun _ _ => ladderArg_eq_some_iff, ladderPayload_length⟩

/-! ### SET TARGET (R95, R96) -/

theorem anyApplied_iff {s : State} : anyApplied s = true ↔ ∃ e ∈ s.entries, e.applied = true := List.any_eq_true

theorem anyApplied_eq_false_iff {s : State} : anyApplied s = false ↔ ∀ e ∈ s.entries, e.applied = false := by
  simp [anyApplied]

theorem targetArg_eq_none {p : List Byte} (h : ∀ t, targetOk t = true → p ≠ targetPayload t) : targetArg p = none :=
  Option.eq_none_iff_forall_ne_some.mpr fun t ht =>
    let ⟨hok, hp⟩ := targetArg_eq_some_iff.mp ht
    h t hok hp

theorem exec_setTarget {tag : Byte} {s : State} (htaken : Taken s tag 0x03) (p : List Byte) :
    exec (.setTarget tag p) s = .next (ownSetTarget tag p s) :=
  congrArg Host.Outcome.next (acceptFrame_taken _ htaken (by decide))

section Checks
variable {tag : Byte} {payload : List Byte} {t : Target} {s : State}

theorem ownSetTarget_malformed (harg : targetArg payload = none) :
    ownSetTarget tag payload s = withReply tag 0x03 .badArgument [] s := by
  simp only [ownSetTarget, harg]
  rfl

theorem ownSetTarget_inUse (harg : targetArg payload = some t) (happlied : anyApplied s = true) :
    ownSetTarget tag payload s = withReply tag 0x03 .inUse [] s := by
  simp only [ownSetTarget, harg, happlied, if_true]
  rfl

theorem ownSetTarget_accepted (harg : targetArg payload = some t) (hnone : anyApplied s = false) :
    ownSetTarget tag payload s = withReply tag 0x03 .ok (le2 (s.targetGen + 1).toNat) (replaceTarget t s) := by
  simp only [ownSetTarget, harg, hnone, Bool.false_eq_true, if_false]
  rfl

end Checks

/-- A target change touches a VALID entry alone (R96). -/
theorem staleByTarget_eq (e : Entry) :
    staleByTarget e = match e.state with
      | .valid sn r => { e with state := .stale sn r }
      | _ => e := by
  unfold staleByTarget
  cases e.state <;> rfl

/-- Settles O36: the payload's check, the applied entry, then the replacement. -/
theorem setTargetStalesProfiles : Obligations.SetTargetStalesProfiles := by
  intro tag p s htaken
  rw [exec_setTarget htaken]
  refine ⟨fun hp => ?_, fun t hok hp => ?_⟩
  · rw [ownSetTarget_malformed (targetArg_eq_none hp)]
  · have harg : targetArg p = some t := targetArg_eq_some_iff.mpr ⟨hok, hp⟩
    refine ⟨fun happlied => ?_, fun hnone => ?_⟩
    · rw [ownSetTarget_inUse harg (anyApplied_iff.mpr happlied)]
    · rw [ownSetTarget_accepted harg (anyApplied_eq_false_iff.mpr hnone), replaceTarget, staleAll]
      congr 4
      exact List.map_congr_left fun e _ => staleByTarget_eq e

end Sys2Proof.Machine
end

section
/-! The choice of the period and the latency (R116 to R119), and the effective times it looks at (R114). -/

namespace Sys2Proof.Machine

/-! ### The latency at a period (R119) -/

section Latency
variable {w : Work} {p l : Nat}

/-- The latency at a period is the smallest allowed one that covers the access time. -/
theorem latencyAt_eq_some_iff :
    latencyAt w p = some l ↔ l ∈ allowedLatencies w ∧ coversAccess w p l = true ∧
      ∀ l' ∈ allowedLatencies w, l' < l → coversAccess w p l' = false := by
  rw [latencyAt, List.min?_eq_some_iff, List.mem_filter, and_assoc]
  refine and_congr_right fun _ => and_congr_right fun _ => ⟨fun h l' hl' hlt => ?_, fun h l' hl' => ?_⟩
  · by_contra hcovers
    exact Nat.not_le_of_lt hlt (h l' (List.mem_filter.mpr ⟨hl', Bool.eq_true_of_not_eq_false hcovers⟩))
  · obtain ⟨hallowed, hcovers⟩ := List.mem_filter.mp hl'
    by_contra hlt
    exact Bool.false_ne_true ((h l' hallowed (Nat.lt_of_not_le hlt)).symm.trans hcovers)

theorem latencyAt_eq_none_iff :
    latencyAt w p = none ↔ ∀ l' ∈ allowedLatencies w, coversAccess w p l' = false := by
  simp [latencyAt]

end Latency

/-! ### FASTEST: the candidates in ascending order (R117) -/

theorem firstWithLatency_eq_none_iff {w : Work} {ps : List Nat} :
    firstWithLatency w ps = none ↔ ∀ q ∈ ps, latencyAt w q = none := by
  induction ps with
  | nil => simp [firstWithLatency]
  | cons q qs ih => cases h : latencyAt w q <;> simp [firstWithLatency, h, ih]

/-- The period found has a latency, and no period before it has one. -/
theorem firstWithLatency_eq_some {w : Work} {ps : List Nat} {p l : Nat} (h : firstWithLatency w ps = some (p, l)) :
    ∃ front back, ps = front ++ p :: back ∧ latencyAt w p = some l ∧ ∀ q ∈ front, latencyAt w q = none := by
  induction ps with
  | nil => exact nomatch h
  | cons q qs ih =>
    cases hq : latencyAt w q with
    | some l' =>
      obtain ⟨rfl, rfl⟩ : q = p ∧ l' = l := by simpa [firstWithLatency, hq] using h
      exact ⟨[], qs, rfl, hq, nofun⟩
    | none =>
      obtain ⟨front, back, rfl, hl, hfront⟩ := ih (by simpa [firstWithLatency, hq] using h)
      exact ⟨q :: front, back, rfl, hl, List.forall_mem_cons.mpr ⟨hq, hfront⟩⟩

/-- In an ascending list a shorter period stands before. -/
theorem mem_front_of_lt {front back : List Nat} {p q : Nat} (hasc : (front ++ p :: back).Pairwise (· < ·))
    (hq : q ∈ front ++ p :: back) (hlt : q < p) : q ∈ front := by
  obtain ⟨_, hback, _⟩ := List.pairwise_append.mp hasc
  rcases List.mem_append.mp hq with hfront | hrest
  · exact hfront
  · rcases List.mem_cons.mp hrest with rfl | hlater
    · exact absurd hlt (Nat.lt_irrefl q)
    · exact absurd hlt (Nat.lt_asymm ((List.pairwise_cons.mp hback).1 q hlater))

section Fastest
variable {w : Work} {ladder : List Nat}

theorem mem_candidates (hladder : w.ladder = some ladder) {q : Nat} :
    q ∈ candidates w ↔ q ∈ ladder ∧ inWindow w q = true := by
  rw [candidates, hladder, Option.getD_some, List.mem_filter]

theorem candidates_pairwise (hladder : w.ladder = some ladder) (hasc : strictlyAscending ladder = true) :
    (candidates w).Pairwise (· < ·) := by
  rw [candidates, hladder]
  exact ((strictlyAscending_iff_isChain ladder).mp hasc).pairwise.filter _

end Fastest

/-! ### The choice, by the mode (R117, R118) -/

section Choice
variable {w : Work} {p l : Nat}

theorem choosePeriod_fastest_ok_iff (hmode : w.request.mode = .fastest) :
    choosePeriod w = .ok (p, l) ↔ firstWithLatency w (candidates w) = some (p, l) := by
  simp only [choosePeriod, hmode]
  cases hc : candidates w with
  | nil => simp [firstWithLatency]
  | cons q qs => cases firstWithLatency w (q :: qs) <;> simp

theorem choosePeriod_fastest_noPeriod_iff (hmode : w.request.mode = .fastest) :
    choosePeriod w = .error .noPeriod ↔ candidates w = [] := by
  simp only [choosePeriod, hmode]
  cases candidates w with
  | nil => simp
  | cons q qs => cases firstWithLatency w (q :: qs) <;> simp

theorem choosePeriod_fastest_noLatency (hmode : w.request.mode = .fastest) (h : choosePeriod w = .error .noLatency) :
    firstWithLatency w (candidates w) = none := by
  cases hc : firstWithLatency w (candidates w) with
  | none => rfl
  | some r => rw [(choosePeriod_fastest_ok_iff hmode).mpr hc] at h; exact nomatch h

theorem choosePeriod_fixed_ok_iff {q : Nat} (hmode : w.request.mode = .fixed q) :
    choosePeriod w = .ok (p, l) ↔ p = q ∧ inWindow w q = true ∧ latencyAt w q = some l := by
  simp only [choosePeriod, hmode]
  cases inWindow w q <;> cases latencyAt w q <;> simp [eq_comm]

theorem choosePeriod_fixed_periodOutOfRange_iff {q : Nat} (hmode : w.request.mode = .fixed q) :
    choosePeriod w = .error .periodOutOfRange ↔ inWindow w q = false := by
  simp only [choosePeriod, hmode]
  cases inWindow w q <;> cases latencyAt w q <;> simp

theorem choosePeriod_fixed_noLatency_iff {q : Nat} (hmode : w.request.mode = .fixed q) :
    choosePeriod w = .error .noLatency ↔ inWindow w q = true ∧ latencyAt w q = none := by
  simp only [choosePeriod, hmode]
  cases inWindow w q <;> cases latencyAt w q <;> simp

/-- A chosen period lies in the window, and the latency is the one at it, whatever the mode. -/
theorem choosePeriod_ok (h : choosePeriod w = .ok (p, l)) : inWindow w p = true ∧ latencyAt w p = some l := by
  cases hmode : w.request.mode with
  | fastest =>
    obtain ⟨front, back, hps, hl, _⟩ := firstWithLatency_eq_some ((choosePeriod_fastest_ok_iff hmode).mp h)
    have hp : p ∈ candidates w := hps ▸ List.mem_append_right front List.mem_cons_self
    exact ⟨(List.mem_filter.mp hp).2, hl⟩
  | fixed q =>
    obtain ⟨rfl, hwindow, hl⟩ := (choosePeriod_fixed_ok_iff hmode).mp h
    exact ⟨hwindow, hl⟩

end Choice

/-! ### Effective times (R114) -/

section Effective
variable {q : Param} {c : SlotCopy}

theorem effectiveOf_decoded (h : ∀ o ∈ c.overrides, o.param ≠ q) : effectiveOf q c = copyTime q c := by
  have hfind : (c.overrides.find? fun o => o.param == q) = none := by simpa using h
  simp only [effectiveOf, overrideOf, hfind, Option.map_none]

theorem effectiveOf_override {front back : List Override} {v : Nat}
    (hc : c.overrides = front ++ { param := q, value := v } :: back) (hfront : ∀ o ∈ front, o.param ≠ q) :
    effectiveOf q c = (v : Int) := by
  have hfind : (c.overrides.find? fun o => o.param == q) = some { param := q, value := v } :=
    List.find?_eq_some_iff_append.mpr ⟨beq_self_eq_true q, front, back, hc, fun o ho => by simpa using hfront o ho⟩
  simp only [effectiveOf, overrideOf, hfind, Option.map_some]

theorem copyTime_of_times {d : Decoded} {t : Times} (hd : c.decoded = some d) (ht : d.times = some t) :
    copyTime q c = timeOf t q := by
  rw [copyTime, hd, Option.bind_some, ht, Option.map_some, Option.getD_some]

end Effective

/-- A FASTEST request's choice: no shorter candidate has a latency. -/
theorem choosePeriod_fastest_shortest {w : Work} {ladder : List Nat} {p l : Nat} (hmode : w.request.mode = .fastest)
    (hladder : w.ladder = some ladder) (hasc : strictlyAscending ladder = true) (h : choosePeriod w = .ok (p, l)) :
    p ∈ ladder ∧ ∀ q ∈ ladder, q < p → inWindow w q = true → latencyAt w q = none := by
  obtain ⟨front, back, hps, -, hnone⟩ := firstWithLatency_eq_some ((choosePeriod_fastest_ok_iff hmode).mp h)
  have hp : p ∈ candidates w := hps ▸ List.mem_append_right front List.mem_cons_self
  refine ⟨((mem_candidates hladder).mp hp).1, fun q hq hlt hwindow => hnone q ?_⟩
  exact mem_front_of_lt (hps ▸ candidates_pairwise hladder hasc) (hps ▸ (mem_candidates hladder).mpr ⟨hq, hwindow⟩) hlt

/-- Settles O25: the candidates are searched in ascending order, and the latency at a period is the smallest that covers. -/
theorem fastestIsTheShortestCandidate : Obligations.FastestIsTheShortestCandidate := by
  refine ⟨fun w ladder hmode hladder hasc => ⟨fun p l h => ?_, fun h q hq hwindow => ?_, ?_⟩,
    fun w q hmode => ⟨fun p l => ?_, ?_, ?_⟩, fun w p l hne => ?_, fun q c => ?_⟩
  · obtain ⟨hwindow, hl⟩ := choosePeriod_ok h
    obtain ⟨hallowed, hcovers, hsmaller⟩ := latencyAt_eq_some_iff.mp hl
    obtain ⟨hp, hshorter⟩ := choosePeriod_fastest_shortest hmode hladder hasc h
    exact ⟨hp, hwindow, hallowed, hcovers, hsmaller,
      fun q hq hlt hq' => latencyAt_eq_none_iff.mp (hshorter q hq hlt hq')⟩
  · have hnone := firstWithLatency_eq_none_iff.mp (choosePeriod_fastest_noLatency hmode h)
    exact latencyAt_eq_none_iff.mp (hnone q ((mem_candidates hladder).mpr ⟨hq, hwindow⟩))
  · simp [choosePeriod_fastest_noPeriod_iff hmode, List.eq_nil_iff_forall_not_mem, mem_candidates hladder]
  · rw [choosePeriod_fixed_ok_iff hmode, latencyAt_eq_some_iff]
  · exact choosePeriod_fixed_periodOutOfRange_iff hmode
  · rw [choosePeriod_fixed_noLatency_iff hmode, latencyAt_eq_none_iff]
  · exact ⟨inWindow_iff p hne, mem_allowedLatencies l hne, coversAccess_iff p l hne⟩
  · exact ⟨effectiveOf_decoded, fun _ _ _ => effectiveOf_override, fun _ _ => copyTime_of_times⟩

end Sys2Proof.Machine
end

section
/-! A resolution that gives a result: every test passed, and the record built (R112 to R127). -/

namespace Sys2Proof.Machine

/-! ### Steps that pass -/

theorem firstFailing_eq_none_iff {cs : List SlotCopy} {test : SlotCopy → Bool} {bad : SlotCopy → Prop}
    (htest : ∀ x, test x = true ↔ bad x) (r : FailureReason) :
    firstFailing cs test r = none ↔ ∀ c ∈ cs, ¬ bad c := by
  simp [firstFailing, ← htest]

theorem guarded_firstFailing_eq_none_iff {cs : List SlotCopy} {asked : Bool} {test : SlotCopy → Bool}
    {bad : SlotCopy → Prop} (htest : ∀ x, test x = true ↔ bad x) (r : FailureReason) :
    (if asked then firstFailing cs test r else none) = none ↔ (asked = true → ∀ c ∈ cs, ¬ bad c) := by
  rw [← firstFailing_eq_none_iff htest r]
  cases asked <;> simp

/-- A value differs in no copy exactly when it is the same in all. -/
theorem firstFailing_differs_eq_none_iff {α : Type} [DecidableEq α] (f : SlotCopy → α) (cs : List SlotCopy)
    (r : FailureReason) :
    firstFailing cs (differsFromFirst f cs) r = none ↔ ∀ c ∈ cs, ∀ d ∈ cs, f c = f d := by
  cases cs with
  | nil => simp [firstFailing]
  | cons first rest =>
    simp only [firstFailing_eq_none_iff (differsFromFirst_iff f rfl) r, ne_eq, not_not]
    exact ⟨fun h c hc d hd => (h c hc).trans (h d hd).symm, fun h c hc => h c hc first List.mem_cons_self⟩

section Passed
variable {w : Work} {p l : Nat} {r : Profile}

theorem combineFailure_eq_none_iff :
    combineFailure w = none ↔
      (∀ c ∈ w.copies, readyFor w.request.acceptSuspect c.state c.clash = true) ∧
      (∀ c ∈ w.copies, ∀ d ∈ w.copies, copyKind c = copyKind d) ∧
      (∀ c ∈ w.copies, ∀ d ∈ w.copies, copyClass c = copyClass d) ∧
      (∀ c ∈ w.copies, ∀ d ∈ w.copies, copyWidth c = copyWidth d) ∧ widthMismatch w = false := by
  have hready (c : SlotCopy) : (!readyFor w.request.acceptSuspect c.state c.clash) = true ↔
      ¬ readyFor w.request.acceptSuspect c.state c.clash = true := by simp
  cases hwidth : widthMismatch w <;>
    simp [combineFailure, firstFailing_eq_none_iff hready, firstFailing_differs_eq_none_iff, hwidth]

/-- A common width that does not mismatch is the expected one, unless that is ANY (R113). -/
theorem copyWidth_of_no_mismatch (h : widthMismatch w = false)
    (hsame : ∀ c ∈ w.copies, ∀ d ∈ w.copies, copyWidth c = copyWidth d) {c : SlotCopy} (hc : c ∈ w.copies) {e : Width}
    (he : w.target.expectedWidth = some e) : copyWidth c = some e := by
  cases hw : w.copies with
  | nil => rw [hw] at hc; exact nomatch hc
  | cons first rest =>
    have hfirst : copyWidth first = some e := by
      by_contra hne
      exact Bool.false_ne_true (h.symm.trans ((widthMismatch_iff hw).mpr ⟨e, he, hne⟩))
    rw [hsame c hc first (hw ▸ List.mem_cons_self), hfirst]

theorem hotFailure_eq_none_iff :
    hotFailure w = none ↔ (w.request.hot = true → ∀ c ∈ w.copies, copyExtRange c = true) := by
  have hunrated (c : SlotCopy) : (!copyExtRange c) = true ↔ ¬ copyExtRange c = true := by simp
  simp only [hotFailure, guarded_firstFailing_eq_none_iff hunrated, not_not]

theorem budgetFailure_eq_none_iff :
    budgetFailure w = none ↔ (w.target.requireBudget = true → ∀ c ∈ w.copies, copyBudget c ≠ some .untested) :=
  guarded_firstFailing_eq_none_iff untested_iff _

theorem countOverflow_eq_none_iff {k : Nine Nat} : countOverflow k = none ↔ ∀ x ∈ nineList k, x ≤ 4095 := by
  have hvalues : nineList k = (countList k).map Prod.snd := rfl
  simp only [countOverflow, Option.map_eq_none_iff, List.find?_eq_none, decide_eq_true_eq, not_lt, hvalues,
    List.forall_mem_map]

/-! ### The record -/

/-- The record of a resolution at a period and latency, as R127 lists it. -/
def builtProfile (w : Work) (p l : Nat) : Profile :=
  { period := p, latency := l, counts := cycleFixUp (plainCounts w p), refresh := refreshInterval w p
    budget := mergedBudget w.copies, unknown := w.copies.any untested, suspect := suspectFlag w.copies
    cls := commonClass w.copies, outputs := slotOutputs w.copies }

/-- A result says that counts, refresh interval and budget passed, and is that record. -/
theorem buildProfile_eq_result (h : buildProfile w p l = .result r) :
    countOverflow (cycleFixUp (plainCounts w p)) = none ∧ 1 ≤ refreshInterval w p ∧ refreshInterval w p ≤ 65535 ∧
      budgetFailure w = none ∧ r = builtProfile w p l := by
  cases hcounts : countOverflow (cycleFixUp (plainCounts w p)) with
  | some q => exact nomatch (buildProfile_of_countOverflow hcounts).symm.trans h
  | none =>
    by_cases hrefresh : refreshInterval w p < 1 ∨ 65535 < refreshInterval w p
    · exact nomatch (buildProfile_of_refresh hcounts hrefresh).symm.trans h
    obtain ⟨hlow, hhigh⟩ : 1 ≤ refreshInterval w p ∧ refreshInterval w p ≤ 65535 := by omega
    cases hbudget : budgetFailure w with
    | some f => exact nomatch ((buildProfile_of_in_range hcounts hlow hhigh).1 f hbudget).symm.trans h
    | none =>
      have hrecord : buildProfile w p l = .result (builtProfile w p l) := by
        simp [buildProfile, builtProfile, hcounts, hhigh, Nat.one_le_iff_ne_zero.mp hlow, hbudget]
      exact ⟨rfl, hlow, hhigh, rfl, (Outcome.result.inj (hrecord.symm.trans h)).symm⟩

/-- A result says that every step before passed, and is what is built at the chosen period and latency. -/
theorem resolveWork_eq_result (h : resolveWork w = .result r) :
    combineFailure w = none ∧ hotFailure w = none ∧
      ∃ p l, choosePeriod w = .ok (p, l) ∧ buildProfile w p l = .result r := by
  cases hcombine : combineFailure w with
  | some f => exact nomatch (resolveWork_of_combineFailure hcombine).symm.trans h
  | none =>
    cases hhot : hotFailure w with
    | some f => exact nomatch (resolveWork_of_hotFailure hcombine hhot).symm.trans h
    | none =>
      cases hchoice : choosePeriod w with
      | error e => exact nomatch (resolveWork_of_choosePeriod_error hcombine hhot hchoice).symm.trans h
      | ok choice =>
        exact ⟨rfl, rfl, choice.1, choice.2, rfl, (resolveWork_of_choosePeriod_ok hcombine hhot hchoice).symm.trans h⟩

end Passed

/-! ### Flags, class and outputs (R113, R123 to R126) -/

theorem any_untested_iff (cs : List SlotCopy) :
    cs.any untested = true ↔ ∃ c ∈ cs, copyBudget c = some .untested := by
  simp only [List.any_eq_true, untested_iff]

theorem suspectFlag_iff (cs : List SlotCopy) :
    suspectFlag cs = true ↔ ∃ c ∈ cs, c.state = .suspect ∨ c.clash = true := by
  simp [suspectFlag]

/-- Where the class is common, the record's is every copy's. -/
theorem commonClass_eq {cs : List SlotCopy} (hsame : ∀ c ∈ cs, ∀ d ∈ cs, copyClass c = copyClass d) {c : SlotCopy}
    (hc : c ∈ cs) {k : ModClass} (hk : copyClass c = some k) : commonClass cs = k := by
  cases cs with
  | nil => exact nomatch hc
  | cons first rest =>
    have hfirst : copyClass first = some k := (hsame first List.mem_cons_self c hc).trans hk
    rw [commonClass, List.head?_cons, Option.bind_some, hfirst, Option.getD_some]

/-- Where every copy has an output, the outputs are the copies', in their order. -/
theorem slotOutputs_eq {cs : List SlotCopy} (h : ∀ c ∈ cs, c.decoded.bind Decoded.output ≠ none) :
    (slotOutputs cs).map (fun o => (o.1, some o.2)) = cs.map fun c => (c.slot, c.decoded.bind Decoded.output) := by
  induction cs with
  | nil => rfl
  | cons c rest ih =>
    obtain ⟨hc, hrest⟩ := List.forall_mem_cons.mp h
    obtain ⟨o, ho⟩ := Option.ne_none_iff_exists'.mp hc
    have hcons : slotOutputs (c :: rest) = (c.slot, o) :: slotOutputs rest :=
      List.filterMap_cons_some (by rw [ho, Option.map_some])
    rw [hcons, List.map_cons, List.map_cons, ih hrest, ho]

/-- Settles O24: a result passed every test, and its record is the one built at the chosen period and latency. -/
theorem resultMeetsEveryModule : Obligations.ResultMeetsEveryModule := by
  intro w r hne hresult hpos
  obtain ⟨hcombine, hhot, p, l, hchoice, hbuild⟩ := resolveWork_eq_result hresult
  obtain ⟨hcounts, hlow, hhigh, hbudget, rfl⟩ := buildProfile_eq_result hbuild
  obtain ⟨hready, hkind, hclass, hwidth, hexpected⟩ := combineFailure_eq_none_iff.mp hcombine
  obtain ⟨hwindow, hlatency⟩ := choosePeriod_ok hchoice
  obtain ⟨hmin, hmax, htimes⟩ := (inWindow_iff p hne).mp hwindow
  obtain ⟨hallowed, hcovers, -⟩ := latencyAt_eq_some_iff.mp hlatency
  obtain ⟨hlmin, hlmax, hlisted⟩ := (mem_allowedLatencies l hne).mp hallowed
  have haccess := (coversAccess_iff p l hne).mp hcovers
  have hknown (hrequired : w.target.requireBudget = true) : w.copies.any untested = false :=
    List.any_eq_false.mpr fun c hc hu => budgetFailure_eq_none_iff.mp hbudget hrequired c hc ((untested_iff c).mp hu)
  exact ⟨fun c hc => (readyFor_iff ..).mp (hready c hc),
    fun c hc d hd => ⟨hkind c hc d hd, hclass c hc d hd, hwidth c hc d hd⟩,
    fun c hc e he => copyWidth_of_no_mismatch hexpected hwidth hc he, hotFailure_eq_none_iff.mp hhot, hchoice,
    hmin, hmax, htimes, hlmin, hlmax, fun c hc => ⟨hlisted c hc, haccess c hc⟩,
    (areCounts_iff _ hne hpos).mpr rfl, countOverflow_eq_none_iff.mp hcounts, Nat.le_max_right _ _,
    (isInterval_iff _ hne hpos).mpr rfl, hlow, hhigh, isBudget_mergedBudget w.copies, any_untested_iff w.copies, hknown,
    suspectFlag_iff w.copies, fun c hc k hk => commonClass_eq hclass hc hk, slotOutputs_eq⟩

end Sys2Proof.Machine
end

section
/-! The hand-over to the Resolver (R106, R107, R136): the entry it takes, and the copies it takes of slots. -/

namespace Sys2Proof.Machine

/-- A slot as it is copied, its decoded image and overrides there exactly with an image copy (R107). -/
theorem copySlot_eq (s : State) (n : SlotNo) :
    copySlot s n =
      { slot := n, state := (s.slots.get n).state, clash := !(s.slots.get n).clash.isEmpty
        decoded := (s.slots.get n).image.map fun c => decodeImage c.bytes
        overrides := if (s.slots.get n).image = none then [] else (s.slots.get n).overrides } := by
  unfold copySlot bareCopy
  cases (s.slots.get n).image <;> simp

/-- The inputs of a request, the ladder among them for FASTEST alone (R107). -/
theorem takeInputs_eq (s : State) (r : ResolveRequest) :
    takeInputs s r =
      { request := r, copies := r.slots.map (copySlot s), target := s.target
        ladder := if r.mode = .fastest then some s.ladder else none } := by
  unfold takeInputs
  cases r.mode <;> rfl

/-- Where handles are distinct, an entry put in the place of a handle replaces the one entry that holds it. -/
theorem setEntry_eq {s : State} {front back : List Entry} {e : Entry} (hs : s.entries = front ++ e :: back)
    (hnodup : (s.entries.map Entry.handle).Nodup) (e' : Entry) :
    setEntry e.handle e' s = { s with entries := front ++ e' :: back } := by
  rw [hs, List.map_append, List.map_cons, List.nodup_middle, List.nodup_cons, ← List.map_append] at hnodup
  have hother : ∀ x ∈ front ++ back, x.handle ≠ e.handle := fun x hx heq =>
    hnodup.1 (heq ▸ List.mem_map_of_mem hx)
  have hkept : ∀ l ⊆ front ++ back, (l.map fun x => if x.handle = e.handle then e' else x) = l := fun l hl =>
    (List.map_congr_left fun x hx => if_neg (hother x (hl hx))).trans l.map_id'
  rw [setEntry, hs, List.map_append, List.map_cons, if_pos rfl, hkept _ (List.subset_append_left ..),
    hkept _ (List.subset_append_right ..)]

/-- An IDLE Resolver takes the first QUEUED entry (R136). -/
theorem handOver_queued {s : State} {front back : List Entry} {e : Entry} {tag : Byte} (hidle : s.work = none)
    (hs : s.entries = front ++ e :: back) (hfront : ∀ x ∈ front, isQueued x = false) (he : e.state = .queued tag) :
    handOver s = setEntry e.handle { e with state := .building tag (takeSnapshot s e.request) }
      { s with work := some (takeInputs s e.request) } := by
  have hfind : s.entries.find? isQueued = some e :=
    List.find?_eq_some_iff_append.mpr
      ⟨by rw [isQueued, he], front, back, hs, fun x hx => by rw [hfront x hx]; rfl⟩
  simp only [handOver, hidle, hfind, he]

/-- Settles O27: the first QUEUED entry is the one found, and it alone holds its handle. -/
theorem handOverTakesTheOldest : Obligations.HandOverTakesTheOldest := by
  refine ⟨?_, fun s h => ?_⟩
  · intro s front back e tag hidle hs hfront he hnodup sn
    rw [handOver_queued hidle hs hfront he, setEntry_eq (s := { s with work := some (takeInputs s e.request) }) hs hnodup,
      takeInputs_eq, funext (copySlot_eq s)]
    rfl
  · rcases h with hworking | hnone
    · obtain ⟨w, hw⟩ := Option.ne_none_iff_exists'.mp hworking
      exact handOver_working hw
    · exact handOver_none hnone

end Sys2Proof.Machine
end


section
/-! The entries of the Profile Table by handle (R130 to R133, R142 to R147): the one a request finds, what its replacement or
its removal leaves, and APPLY, UNAPPLY and DROP as the checks they make. -/

namespace Sys2Proof.Machine

/-! ### The entry that holds a handle -/

theorem TableInv.nodup {s : State} (h : TableInv s) : (s.entries.map Entry.handle).Nodup := by
  obtain ⟨_, hnodup, _⟩ := h
  exact hnodup

theorem TableInv.entryOk {s : State} (h : TableInv s) {e : Entry} (he : e ∈ s.entries) : EntryOk s e := by
  obtain ⟨_, _, _, _, hok⟩ := h
  exact hok e he

/-- Where handles are distinct, an entry is the one found at its handle. -/
theorem entryAt_handle {s : State} (hnodup : (s.entries.map Entry.handle).Nodup) {e : Entry} (he : e ∈ s.entries) :
    entryAt s e.handle = some e := by
  obtain ⟨x, hx⟩ : ∃ x, entryAt s e.handle = some x :=
    Option.isSome_iff_exists.mp (List.find?_isSome.mpr ⟨e, he, beq_self_eq_true _⟩)
  have hhandle : x.handle = e.handle := by simpa using List.find?_some hx
  rw [hx, List.inj_on_of_nodup_map hnodup (entryAt_mem hx) he hhandle]

/-- Where handles are distinct, the entry that holds one becomes FREE alone. -/
theorem freeEntry_eq {s : State} {front back : List Entry} {e : Entry} (hs : s.entries = front ++ e :: back)
    (hnodup : (s.entries.map Entry.handle).Nodup) : freeEntry e.handle s = { s with entries := front ++ back } := by
  rw [hs, List.map_append, List.map_cons, List.nodup_middle, List.nodup_cons, ← List.map_append] at hnodup
  have hother : ∀ x ∈ front ++ back, (x.handle != e.handle) = true := fun x hx =>
    bne_iff_ne.mpr fun heq => hnodup.1 (heq ▸ List.mem_map_of_mem hx)
  have hfilter : s.entries.filter (fun x => x.handle != e.handle) = front ++ back := by
    rw [hs, List.filter_append, List.filter_cons_of_neg (by simp), ← List.filter_append,
      List.filter_eq_self.mpr hother]
  rw [freeEntry, hfilter]

section Named
variable {tag kind : Byte} {act : Entry → State → State} {s : State}

theorem withEntry_malformed {p : List Byte} (hp : p.length ≠ 1) :
    withEntry tag kind p act s = withReply tag kind .badArgument [] s := by
  rw [withEntry, oneByteArg_of_length_ne hp]
  rfl

theorem withEntry_unknown {h : Byte} (hnone : ∀ e ∈ s.entries, e.handle ≠ h) :
    withEntry tag kind [h] act s = withReply tag kind .unknownProfile [] s := by
  have hentry : entryAt s h = none := by simpa [entryAt] using hnone
  simp only [withEntry, oneByteArg, hentry]
  rfl

theorem withEntry_held (hnodup : (s.entries.map Entry.handle).Nodup) {e : Entry} (he : e ∈ s.entries) :
    withEntry tag kind [e.handle] act s = act e s := by
  simp only [withEntry, oneByteArg, entryAt_handle hnodup he]

end Named

theorem exec_applyProfile_taken {tag : Byte} {s : State} (h : Taken s tag 0x23) (p : List Byte) :
    exec (.applyProfile tag p) s = .next (ownApply tag p s) :=
  congrArg Host.Outcome.next (acceptFrame_taken (kind := kindApply) (ownApply tag p) h (by decide))

theorem exec_unapplyProfile_taken {tag : Byte} {s : State} (h : Taken s tag 0x24) (p : List Byte) :
    exec (.unapplyProfile tag p) s = .next (ownUnapply tag p s) :=
  congrArg Host.Outcome.next (acceptFrame_taken (kind := kindUnapply) (ownUnapply tag p) h (by decide))

theorem exec_dropProfile_taken {tag : Byte} {s : State} (h : Taken s tag 0x25) (p : List Byte) :
    exec (.dropProfile tag p) s = .next (ownDrop tag p s) :=
  congrArg Host.Outcome.next (acceptFrame_taken (kind := kindDrop) (ownDrop tag p) h (by decide))

/-! ### APPLY and UNAPPLY (R142, R143) -/

theorem isValid_iff {e : Entry} : isValid e = true ↔ ∃ sn p, e.state = .valid sn p := by
  unfold isValid
  cases e.state <;> simp

/-- Settles O46: the four checks of R142 in their order, then the mark. -/
theorem applyChecks : Obligations.ApplyChecks := by
  intro tag s htaken hnodup
  refine ⟨fun h hnone => ?_, fun e he => ?_, fun p hp => ?_⟩
  · rw [exec_applyProfile_taken htaken, ownApply, withEntry_unknown hnone]
    rfl
  · intro run
    have hrun : run = .next (applyEntry tag e s) :=
      (exec_applyProfile_taken htaken _).trans (congrArg _ (withEntry_held hnodup he))
    rw [hrun, applyEntry]
    refine ⟨fun happlied => ?_, fun happlied hother => ?_, fun hnone => ⟨fun hinvalid => ?_, fun sn p hvalid => ?_⟩⟩
    · rw [if_pos happlied]
      rfl
    · rw [if_neg (Bool.eq_false_iff.mp happlied), if_pos (anyApplied_iff.mpr hother)]
      rfl
    all_goals
      rw [if_neg (Bool.eq_false_iff.mp (hnone e he)),
        if_neg (Bool.eq_false_iff.mp (anyApplied_eq_false_iff.mpr hnone))]
    · have hstate : isValid e = false := Bool.eq_false_iff.mpr fun h =>
        let ⟨sn, p, hvalid⟩ := isValid_iff.mp h
        hinvalid sn p hvalid
      rw [hstate]
      rfl
    · rw [isValid_iff.mpr ⟨sn, p, hvalid⟩]
      rfl
  · rw [exec_applyProfile_taken htaken, ownApply, withEntry_malformed hp]
    rfl

/-- Where one entry at most is applied and it is known, the others are not. -/
theorem not_applied_of_countP_le {front back : List Entry} {e : Entry}
    (hcount : (front ++ e :: back).countP Entry.applied ≤ 1) (he : e.applied = true) :
    ∀ x ∈ front ++ back, x.applied = false := by
  have hnone : (front ++ back).countP Entry.applied = 0 := by
    rw [List.countP_append, List.countP_cons_of_pos he] at hcount
    rw [List.countP_append]
    omega
  exact fun x hx => Bool.eq_false_iff.mpr (List.countP_eq_zero.mp hnone x hx)

/-- Settles O47: the mark decides, and the one entry that bore it is the one named. -/
theorem unapplyChecks : Obligations.UnapplyChecks := by
  intro tag s htaken hnodup hcount
  refine ⟨fun h hnone => ?_, fun e he => ?_, fun p hp => ?_⟩
  · rw [exec_unapplyProfile_taken htaken, ownUnapply, withEntry_unknown hnone]
    rfl
  · rw [exec_unapplyProfile_taken htaken, ownUnapply, withEntry_held hnodup he, unapplyEntry]
    refine ⟨fun happlied => ⟨?_, ?_⟩, fun happlied => ?_⟩
    · rw [if_pos happlied]
      rfl
    · obtain ⟨front, back, hs⟩ := List.append_of_mem he
      have hothers := not_applied_of_countP_le (hs ▸ hcount) happlied
      have hleft : s.entries.map (fun x => if x.handle = e.handle then { e with applied := false } else x) =
          front ++ { e with applied := false } :: back :=
        congrArg State.entries (setEntry_eq hs hnodup { e with applied := false })
      dsimp only [withReply]
      rw [hleft]
      intro x hx
      rcases List.mem_append.mp hx with hx | hx
      · exact hothers x (List.mem_append_left back hx)
      · rcases List.mem_cons.mp hx with rfl | hx
        · rfl
        · exact hothers x (List.mem_append_right front hx)
    · rw [if_neg (Bool.eq_false_iff.mp happlied)]
      rfl
  · rw [exec_unapplyProfile_taken htaken, ownUnapply, withEntry_malformed hp]
    rfl

/-! ### DROP (R145) -/

/-- An entry that waits for no reply becomes FREE, and nothing else. -/
theorem dropEntry_of_requestTag_none {e : Entry} (h : requestTag e = none) (s : State) :
    dropEntry e s = freeEntry e.handle s := by
  unfold requestTag at h
  unfold dropEntry
  split <;> simp_all

theorem dropNamed_of_not_applied {e : Entry} (h : e.applied = false) (tag : Byte) (s : State) :
    dropNamed tag e s = withReply tag 0x25 .ok [] (dropEntry e s) := by
  rw [dropNamed, if_neg (Bool.eq_false_iff.mp h)]
  rfl

/-- Only an entry with a result bears the mark. -/
theorem EntryOk.not_applied {s : State} {e : Entry} (h : EntryOk s e) (hst : holdsResult e = false) : e.applied = false := by
  obtain ⟨_, _, _, hmark, _⟩ := h
  exact Bool.eq_false_iff.mpr fun happlied => Bool.eq_false_iff.mp hst (hmark happlied)

/-- Settles O48: the entry's state tells what its RESOLVE is replied. -/
theorem dropFreesTheEntry : Obligations.DropFreesTheEntry := by
  intro tag s htaken h
  refine ⟨fun k hnone => ?_, fun e he => ?_, fun p hp => ?_⟩
  · rw [exec_dropProfile_taken htaken, ownDrop, withEntry_unknown hnone]
    rfl
  · intro run freed
    have hrun : run = .next (dropNamed tag e s) :=
      (exec_dropProfile_taken htaken _).trans (congrArg _ (withEntry_held h.table.nodup he))
    rw [hrun]
    refine ⟨fun happlied => ?_, fun happlied htag => ?_, fun g hst => ?_, fun g sn hst => ?_⟩
    · rw [dropNamed, if_pos happlied]
      rfl
    · rw [dropNamed_of_not_applied happlied, dropEntry_of_requestTag_none htag]
      rfl
    · obtain ⟨o, ho, _⟩ := h.profile_of_mem he (g := g) (by rw [requestTag, hst])
      rw [dropNamed_of_not_applied ((h.table.entryOk he).not_applied (by rw [holdsResult, hst])),
        dropEntry_queued h.distinctTags ho hst]
    · obtain ⟨o, ho, _⟩ := h.profile_of_mem he (g := g) (by rw [requestTag, hst])
      rw [dropNamed_of_not_applied ((h.table.entryOk he).not_applied (by rw [holdsResult, hst])),
        dropEntry_building h.distinctTags ho hst]
  · rw [exec_dropProfile_taken htaken, ownDrop, withEntry_malformed hp]
    rfl

end Sys2Proof.Machine
end

section
/-! The Profile Table and the Resolver together (R105, R130 to R145): what they read of the state, and what keeps them in
agreement, change by change. -/

namespace Sys2Proof.Machine

/-! ### What Table and Resolver read -/

/-- The Profile Table and the Resolver are right. -/
structure ProfilesOk (s : State) : Prop where
  table : TableInv s
  resolver : ResolverInv s

/-- The generations that snapshots are compared with are as they were. -/
structure SameGens (s t : State) : Prop where
  slots : ∀ n, (t.slots.get n).gen = (s.slots.get n).gen
  target : t.targetGen = s.targetGen

/-- Entries, Resolver, handle counter and generations are as they were. -/
structure ProfileAlike (s t : State) : Prop extends SameGens s t where
  entries : t.entries = s.entries
  work : t.work = s.work
  nextHandle : t.nextHandle = s.nextHandle

theorem SameGens.trans {s t u : State} (h : SameGens s t) (h' : SameGens t u) : SameGens s u :=
  ⟨fun n => (h'.slots n).trans (h.slots n), h'.target.trans h.target⟩

theorem ProfileAlike.trans {s t u : State} (h : ProfileAlike s t) (h' : ProfileAlike t u) : ProfileAlike s u :=
  ⟨h.toSameGens.trans h'.toSameGens, h'.entries.trans h.entries, h'.work.trans h.work, h'.nextHandle.trans h.nextHandle⟩

theorem sameGens_of_eq {s t : State} (hslots : t.slots = s.slots) (htarget : t.targetGen = s.targetGen) : SameGens s t :=
  ⟨fun n => by rw [hslots], htarget⟩

theorem profileAlike_of_eq {s t : State} (hslots : t.slots = s.slots) (htarget : t.targetGen = s.targetGen)
    (hentries : t.entries = s.entries) (hwork : t.work = s.work) (hnext : t.nextHandle = s.nextHandle) :
    ProfileAlike s t := ⟨sameGens_of_eq hslots htarget, hentries, hwork, hnext⟩

theorem snapshotCurrent_iff {s : State} {sn : Snapshot} :
    snapshotCurrent s sn = true ↔ (∀ g ∈ sn.gens, (s.slots.get g.1).gen = g.2) ∧ sn.target = s.targetGen := by
  simp [snapshotCurrent]

theorem SameGens.snapshotCurrent {s t : State} (h : SameGens s t) (sn : Snapshot) :
    snapshotCurrent t sn = snapshotCurrent s sn := by
  rw [Bool.eq_iff_iff, snapshotCurrent_iff, snapshotCurrent_iff, h.target]
  simp only [h.slots]

theorem EntryOk.congr {s t : State} {e : Entry} (h : EntryOk s e) (hgens : SameGens s t) : EntryOk t e := by
  obtain ⟨hhandle, hslots, hascending, hmark, hsnapshot, hcurrent⟩ := h
  exact ⟨hhandle, hslots, hascending, hmark, hsnapshot, fun sn hsn hvalid =>
    (hgens.snapshotCurrent sn).trans (hcurrent sn hsn hvalid)⟩

theorem isQueued_iff {e : Entry} : isQueued e = true ↔ ∃ tag, e.state = .queued tag := by
  unfold isQueued
  cases e.state <;> simp

theorem isBuilding_iff {e : Entry} : isBuilding e = true ↔ ∃ tag sn, e.state = .building tag sn := by
  unfold isBuilding
  cases e.state <;> simp

/-! ### The Resolver, but for the hand-over -/

/-- The Resolver works exactly on the one BUILDING entry; an entry may still wait for the hand-over (R105, R136). -/
structure ResolverReady (s : State) : Prop where
  idle : s.work = none → s.entries.countP isBuilding = 0
  working : ∀ w, s.work = some w →
    s.entries.countP isBuilding = 1 ∧ ∀ e ∈ s.entries, isBuilding e = true → e.request = w.request

theorem resolverInv_iff {s : State} :
    ResolverInv s ↔ ResolverReady s ∧ (s.work = none → s.entries.countP isQueued = 0) := by
  unfold ResolverInv
  split
  next hw =>
    exact ⟨fun h => ⟨⟨fun _ => h.1, fun w h' => nomatch hw.symm.trans h'⟩, fun _ => h.2⟩,
      fun h => ⟨h.1.idle hw, h.2 hw⟩⟩
  next w hw =>
    refine ⟨fun h => ⟨⟨(fun h' => nomatch hw.symm.trans h'), fun w' hw' => ?_⟩, fun h' => nomatch hw.symm.trans h'⟩,
      fun h => h.1.working w hw⟩
    obtain rfl := Option.some.inj (hw.symm.trans hw')
    exact h

theorem ProfilesOk.ready {s : State} (h : ProfilesOk s) : ResolverReady s := (resolverInv_iff.mp h.resolver).1

theorem ProfilesOk.none_queued {s : State} (h : ProfilesOk s) (hw : s.work = none) : s.entries.countP isQueued = 0 :=
  (resolverInv_iff.mp h.resolver).2 hw

/-- While an entry is BUILDING the Resolver works, and on no other. -/
theorem ResolverReady.one_building {s : State} (h : ResolverReady s) {e : Entry} (he : e ∈ s.entries)
    (hst : isBuilding e = true) : s.entries.countP isBuilding = 1 := by
  cases hw : s.work with
  | none => exact absurd hst (List.countP_eq_zero.mp (h.idle hw) e he)
  | some w => exact (h.working w hw).1

/-! ### Entries that age (R96, R139) -/

/-- What a change of generations makes of an entry: as it was, and current where it is VALID, or STALE where it was VALID. -/
def AgedTo (t : State) (e e' : Entry) : Prop :=
  e' = e ∧ (∀ sn p, e.state = .valid sn p → snapshotCurrent t sn = true) ∨
    ∃ sn p, e.state = .valid sn p ∧ e' = { e with state := .stale sn p }

section Aged
variable {s t : State} {e e' : Entry} (h : AgedTo t e e')
include h

theorem AgedTo.handle : e'.handle = e.handle := by
  rcases h with ⟨rfl, _⟩ | ⟨sn, p, _, rfl⟩ <;> rfl

theorem AgedTo.applied : e'.applied = e.applied := by
  rcases h with ⟨rfl, _⟩ | ⟨sn, p, _, rfl⟩ <;> rfl

theorem AgedTo.request : e'.request = e.request := by
  rcases h with ⟨rfl, _⟩ | ⟨sn, p, _, rfl⟩ <;> rfl

theorem AgedTo.building : isBuilding e' = isBuilding e := by
  rcases h with ⟨rfl, _⟩ | ⟨sn, p, hvalid, rfl⟩
  · rfl
  · simp [isBuilding, hvalid]

theorem AgedTo.queued : isQueued e' = isQueued e := by
  rcases h with ⟨rfl, _⟩ | ⟨sn, p, hvalid, rfl⟩
  · rfl
  · simp [isQueued, hvalid]

theorem AgedTo.entryOk (hok : EntryOk s e) : EntryOk t e' := by
  obtain ⟨hhandle, hslots, hascending, hmark, hsnapshot, _⟩ := hok
  rcases h with ⟨rfl, hcurrent⟩ | ⟨sn, p, hvalid, rfl⟩
  · refine ⟨hhandle, hslots, hascending, hmark, hsnapshot, fun sn hsn hvalid => ?_⟩
    obtain ⟨sn', p, hst⟩ := isValid_iff.mp hvalid
    rw [snapshotOf, hst] at hsn
    exact Option.some.inj hsn ▸ hcurrent sn' p hst
  · refine ⟨hhandle, hslots, hascending, fun _ => rfl, fun sn' hsn => hsnapshot sn' ?_, fun _ _ h => nomatch h⟩
    rw [snapshotOf, hvalid]
    exact hsn

end Aged

theorem countP_map_of_eq {l : List Entry} {g : Entry → Entry} {p : Entry → Bool} (h : ∀ e ∈ l, p (g e) = p e) :
    (l.map g).countP p = l.countP p := by
  rw [List.countP_map]
  exact List.countP_congr fun e he => by rw [Function.comp_apply, h e he]

/-- Entries that age keep Table and Resolver right. -/
theorem ProfilesOk.aged {s t : State} (h : ProfilesOk s) {g : Entry → Entry} (hg : ∀ e ∈ s.entries, AgedTo t e (g e))
    (hentries : t.entries = s.entries.map g) (hwork : t.work = s.work) (hnext : t.nextHandle = s.nextHandle) :
    ProfilesOk t := by
  have hready := h.ready
  have hqueued := h.none_queued
  obtain ⟨hlength, hnodup, hcounter, hmark, hok⟩ := h.table
  have hbuilding : t.entries.countP isBuilding = s.entries.countP isBuilding := by
    rw [hentries, countP_map_of_eq fun e he => (hg e he).building]
  refine ⟨⟨?_, ?_, ?_, ?_, fun e' he' => ?_⟩, resolverInv_iff.mpr
    ⟨⟨fun hw => ?_, fun w hw => ⟨?_, fun e' he' => ?_⟩⟩, fun hw => ?_⟩⟩
  · rwa [hentries, List.length_map]
  · have hhandles : (s.entries.map g).map Entry.handle = s.entries.map Entry.handle :=
      List.map_map.trans (List.map_congr_left fun e he => (hg e he).handle)
    rwa [hentries, hhandles]
  · rwa [hnext]
  · rwa [hentries, countP_map_of_eq fun e he => (hg e he).applied]
  · obtain ⟨e, he, rfl⟩ := List.mem_map.mp (hentries ▸ he')
    exact (hg e he).entryOk (hok e he)
  · exact hbuilding.trans (hready.idle (hwork ▸ hw))
  · exact hbuilding.trans (hready.working w (hwork ▸ hw)).1
  · obtain ⟨e, he, rfl⟩ := List.mem_map.mp (hentries ▸ he')
    rw [(hg e he).building, (hg e he).request]
    exact (hready.working w (hwork ▸ hw)).2 e he
  · rw [hentries, countP_map_of_eq fun e he => (hg e he).queued]
    exact hqueued (hwork ▸ hw)

/-- Without a change of generations no entry ages. -/
theorem ProfilesOk.congr {s t : State} (h : ProfilesOk s) (ha : ProfileAlike s t) : ProfilesOk t := by
  refine h.aged (g := id) (fun e he => .inl ⟨rfl, fun sn p hvalid => ?_⟩) (by rw [ha.entries, List.map_id]) ha.work
    ha.nextHandle
  obtain ⟨_, _, _, _, _, hcurrent⟩ := h.table.entryOk he
  rw [ha.toSameGens.snapshotCurrent]
  exact hcurrent sn (by rw [snapshotOf, hvalid]) (isValid_iff.mpr ⟨sn, p, hvalid⟩)

/-- A snapshot that holds no changed slot stays current. -/
theorem agedTo_staleEntry {s t : State} {e : Entry} (hok : EntryOk s e) {hit : SlotNo → Bool}
    (hgens : ∀ n, hit n = false → (t.slots.get n).gen = (s.slots.get n).gen) (htarget : t.targetGen = s.targetGen) :
    AgedTo t e (staleEntry hit e) := by
  obtain ⟨_, _, _, _, _, hcurrent⟩ := hok
  cases hst : e.state with
  | valid sn p =>
    cases hhit : snapshotHit hit sn with
    | true => exact .inr ⟨sn, p, hst, by simp [staleEntry, hst, hhit]⟩
    | false =>
      refine .inl ⟨by simp [staleEntry, hst, hhit], fun sn' p' hst' => ?_⟩
      obtain ⟨rfl, rfl⟩ := EntryState.valid.inj (hst.symm.trans hst')
      obtain ⟨hslots, hsame⟩ := snapshotCurrent_iff.mp
        (hcurrent sn (by rw [snapshotOf, hst]) (isValid_iff.mpr ⟨sn, p, hst⟩))
      refine snapshotCurrent_iff.mpr ⟨fun g hg => ?_, hsame.trans htarget.symm⟩
      rw [hgens g.1 (Bool.eq_false_iff.mpr (List.any_eq_false.mp hhit g hg)), hslots g hg]
  | _ => exact .inl ⟨by simp [staleEntry, hst], fun _ _ hst' => nomatch hst.symm.trans hst'⟩

theorem agedTo_staleByTarget (t : State) (e : Entry) : AgedTo t e (staleByTarget e) := by
  cases hst : e.state with
  | valid sn p => exact .inr ⟨sn, p, hst, by simp [staleByTarget, hst]⟩
  | _ => exact .inl ⟨by simp [staleByTarget, hst], fun _ _ hst' => nomatch hst.symm.trans hst'⟩

/-- Increments of some slots, and the staleness they call for. -/
theorem ProfilesOk.incremented {s t : State} (h : ProfilesOk s) {hit : SlotNo → Bool}
    (hgens : ∀ n, hit n = false → (t.slots.get n).gen = (s.slots.get n).gen) (htarget : t.targetGen = s.targetGen)
    (hentries : t.entries = s.entries.map (staleEntry hit)) (hwork : t.work = s.work)
    (hnext : t.nextHandle = s.nextHandle) : ProfilesOk t :=
  h.aged (fun _ he => agedTo_staleEntry (h.table.entryOk he) hgens htarget) hentries hwork hnext

/-- R139, R141: a slot event that puts records with the generations as they were in place. -/
theorem ProfilesOk.slotEvent {s : State} (h : ProfilesOk s) {own : SlotNo → Bool} {changed : Eight Slot}
    (bodies : List NoticeBody) (hgens : ∀ n, (changed.get n).gen = (s.slots.get n).gen) :
    ProfilesOk (slotEvent own changed bodies s) := by
  refine h.incremented (hit := Machine.incremented own s.slots changed) (fun n hn => ?_) (by simp) ?_ (by simp) (by simp)
  · rw [slotEvent_slots, commitSlots_get, hn, hgens n]
    rfl
  · rw [Machine.slotEvent, staleSlots_entries, raiseAll_entries]
    rfl

/-! ### Entries that go, come and change -/

/-- Fewer entries. -/
theorem TableInv.sublist {s t : State} (h : TableInv s) (hsub : t.entries.Sublist s.entries) (hgens : SameGens s t)
    (hnext : t.nextHandle = s.nextHandle) : TableInv t := by
  obtain ⟨hlength, hnodup, hcounter, hmark, hok⟩ := h
  exact ⟨hsub.length_le.trans hlength, hnodup.sublist (hsub.map _), hnext ▸ hcounter, (hsub.countP_le).trans hmark,
    fun e he => (hok e (hsub.subset he)).congr hgens⟩

/-- No entry, and the Resolver IDLE (R148, R149). -/
theorem profilesOk_of_empty {s : State} (hentries : s.entries = []) (hwork : s.work = none) (hnext : s.nextHandle ≠ 0) :
    ProfilesOk s := by
  refine ⟨⟨?_, ?_, hnext, ?_, fun e he => ?_⟩, resolverInv_iff.mpr ⟨⟨fun _ => ?_, fun w hw => ?_⟩, fun _ => ?_⟩⟩
  · rw [hentries]
    exact Nat.zero_le _
  · rw [hentries]
    exact List.nodup_nil
  · rw [hentries]
    exact Nat.zero_le _
  · rw [hentries] at he
    exact nomatch he
  · rw [hentries]
    rfl
  · exact nomatch hwork.symm.trans hw
  · rw [hentries]
    rfl

/-- One entry changed in its place; it is newly applied only where none was. -/
theorem TableInv.replace {s t : State} (h : TableInv s) {front back : List Entry} {e e' : Entry}
    (hs : s.entries = front ++ e :: back) (ht : t.entries = front ++ e' :: back) (hhandle : e'.handle = e.handle)
    (happlied : e'.applied = true → e.applied = true ∨ ∀ x ∈ s.entries, x.applied = false) (hok' : EntryOk t e')
    (hgens : SameGens s t) (hnext : t.nextHandle = s.nextHandle) : TableInv t := by
  obtain ⟨hlength, hnodup, hcounter, hmark, hok⟩ := h
  refine ⟨?_, ?_, hnext ▸ hcounter, ?_, fun x hx => ?_⟩
  · simpa [ht, hs] using hlength
  · simpa [ht, hs, hhandle] using hnodup
  · rw [hs, List.countP_append, List.countP_cons] at hmark
    rw [ht, List.countP_append, List.countP_cons]
    cases hnew : e'.applied with
    | false =>
      rw [if_neg Bool.false_ne_true]
      omega
    | true =>
      rcases happlied hnew with hold | hnone
      · rwa [hold] at hmark
      · have hfree : ∀ l ⊆ s.entries, l.countP Entry.applied = 0 := fun l hl =>
          List.countP_eq_zero.mpr fun x hx => Bool.eq_false_iff.mp (hnone x (hl hx))
        rw [hfree front (by simp [hs]), hfree back (by simp [hs])]
        exact Nat.le_refl 1
  · rw [ht] at hx
    rcases List.mem_append.mp hx with hx | hx
    · exact (hok x (by simp [hs, hx])).congr hgens
    · rcases List.mem_cons.mp hx with rfl | hx
      · exact hok'
      · exact (hok x (by simp [hs, hx])).congr hgens

/-- An entry that is not BUILDING goes. -/
theorem ResolverReady.remove {s t : State} (h : ResolverReady s) {front back : List Entry} {e : Entry}
    (hs : s.entries = front ++ e :: back) (ht : t.entries = front ++ back) (hst : isBuilding e = false)
    (hwork : t.work = s.work) : ResolverReady t := by
  have hcount : t.entries.countP isBuilding = s.entries.countP isBuilding := by
    rw [ht, hs, List.countP_append, List.countP_append, List.countP_cons_of_neg (Bool.eq_false_iff.mp hst)]
  have hsub : t.entries ⊆ s.entries := by
    rw [ht, hs]
    exact ((List.sublist_cons_self e back).append_left front).subset
  exact ⟨fun hw => hcount.trans (h.idle (hwork ▸ hw)), fun w hw =>
    ⟨hcount.trans (h.working w (hwork ▸ hw)).1, fun x hx => (h.working w (hwork ▸ hw)).2 x (hsub hx)⟩⟩

/-- An entry changes in its place and is not BUILDING, as before. -/
theorem ResolverReady.replace {s t : State} (h : ResolverReady s) {front back : List Entry} {e e' : Entry}
    (hs : s.entries = front ++ e :: back) (ht : t.entries = front ++ e' :: back) (hst : isBuilding e = false)
    (hst' : isBuilding e' = false) (hwork : t.work = s.work) : ResolverReady t := by
  have hcount : t.entries.countP isBuilding = s.entries.countP isBuilding := by
    rw [ht, hs, List.countP_append, List.countP_append, List.countP_cons_of_neg (Bool.eq_false_iff.mp hst),
      List.countP_cons_of_neg (Bool.eq_false_iff.mp hst')]
  refine ⟨fun hw => hcount.trans (h.idle (hwork ▸ hw)), fun w hw =>
    ⟨hcount.trans (h.working w (hwork ▸ hw)).1, fun x hx hbuilding => ?_⟩⟩
  refine (h.working w (hwork ▸ hw)).2 x ?_ hbuilding
  rw [ht] at hx
  rcases List.mem_append.mp hx with hx | hx
  · simp [hs, hx]
  · rcases List.mem_cons.mp hx with rfl | hx
    · exact nomatch hst'.symm.trans hbuilding
    · simp [hs, hx]

/-! ### The hand-over (R136) -/

/-- An entry handed over stays an entry of its request, with the snapshot of its own set. -/
theorem EntryOk.handedOver {s t : State} {e : Entry} (h : EntryOk s e) {tag : Byte} (hst : e.state = .queued tag) :
    EntryOk t { e with state := .building tag (takeSnapshot s e.request) } := by
  have happlied := h.not_applied (by rw [holdsResult, hst])
  obtain ⟨hhandle, hslots, hascending, _, _, _⟩ := h
  refine ⟨hhandle, hslots, hascending, (fun hnew => nomatch happlied.symm.trans hnew), fun sn hsn => ?_,
    fun _ _ hvalid => nomatch hvalid⟩
  obtain rfl := Option.some.inj hsn
  simp [takeSnapshot, Function.comp_def]

/-- The hand-over leaves nothing to hand over. -/
theorem profilesOk_handOver {s : State} (h : TableInv s) (hr : ResolverReady s) : ProfilesOk (handOver s) := by
  cases hw : s.work with
  | some w =>
    rw [handOver_working hw]
    exact ⟨h, resolverInv_iff.mpr ⟨hr, fun hidle => nomatch hw.symm.trans hidle⟩⟩
  | none =>
    cases hfind : s.entries.find? isQueued with
    | none =>
      have hnone : ∀ e ∈ s.entries, ¬ isQueued e = true := by simpa using hfind
      rw [handOver_none fun e he => Bool.eq_false_iff.mpr (hnone e he)]
      exact ⟨h, resolverInv_iff.mpr ⟨hr, fun _ => List.countP_eq_zero.mpr hnone⟩⟩
    | some e =>
      obtain ⟨hqueued, front, back, hs, hfront⟩ := List.find?_eq_some_iff_append.mp hfind
      obtain ⟨tag, hst⟩ := isQueued_iff.mp hqueued
      have he : e ∈ s.entries := by simp [hs]
      have hok := h.entryOk he
      have happlied := hok.not_applied (by rw [holdsResult, hst])
      rw [handOver_queued hw hs (fun x hx => by simpa using hfront x hx) hst,
        setEntry_eq (s := { s with work := some (takeInputs s e.request) }) hs h.nodup]
      have hidle := hr.idle hw
      rw [hs, List.countP_append, List.countP_cons, Nat.add_eq_zero_iff, Nat.add_eq_zero_iff] at hidle
      obtain ⟨hfront, hback, _⟩ := hidle
      refine ⟨TableInv.replace h hs rfl rfl (fun hnew => nomatch happlied.symm.trans hnew) (hok.handedOver hst)
        ⟨fun _ => rfl, rfl⟩ rfl, resolverInv_iff.mpr ⟨⟨(fun hidle => nomatch hidle), fun w hw => ⟨?_, fun x hx hb => ?_⟩⟩,
          fun hidle => nomatch hidle⟩⟩
      · dsimp only
        rw [List.countP_append, List.countP_cons, hfront, hback]
        rfl
      · obtain rfl := Option.some.inj hw
        rcases List.mem_append.mp hx with hx | hx
        · exact absurd hb (List.countP_eq_zero.mp hfront x hx)
        · rcases List.mem_cons.mp hx with rfl | hx
          · rfl
          · exact absurd hb (List.countP_eq_zero.mp hback x hx)

end Sys2Proof.Machine
end

section
/-! RESOLVE (R132 to R136, R184): its payload, the handle it takes, the entry it may evict, and what a taken one leaves. -/

namespace Sys2Proof.Machine

/-! ### The payload (R134, R184) -/

theorem slotArg_eq_some_iff {b : Byte} {n : SlotNo} : slotArg b = some n ↔ b = BitVec.ofNat 8 n.val := by
  refine ⟨fun h => ?_, fun h => h ▸ slotArg_slot n⟩
  rw [slotArg, dif_pos (slotArg_eq_some h)] at h
  exact eq_byte_of_toNat (congrArg Fin.val (Option.some.inj h))

/-- The bytes of slot numbers, and no others, are read back as them. -/
theorem slotsArg_eq_some_iff {bs : List Byte} {ns : List SlotNo} :
    slotsArg bs = some ns ↔ bs = ns.map fun n => BitVec.ofNat 8 n.val := by
  induction bs generalizing ns with
  | nil => cases ns <;> simp [slotsArg]
  | cons b bs ih =>
    constructor
    · intro h
      rw [slotsArg] at h
      split at h
      next n ns' hn hns =>
        cases h
        rw [List.map_cons, ← slotArg_eq_some_iff.mp hn, ← ih.mp hns]
      next => exact nomatch h
    · intro h
      cases ns with
      | nil => exact nomatch h
      | cons n ns =>
        obtain ⟨hb, hbs⟩ := List.cons.inj h
        simp only [slotsArg, slotArg_eq_some_iff.mpr hb, ih.mpr hbs]

theorem modeArg_fastest (period : Nat) : modeArg 0 period = some .fastest := rfl

theorem modeArg_fixed {period : Nat} (h : periodOk period = true) : modeArg 1 period = some (.fixed period) := if_pos h

/-- A mode that is read is FASTEST, or FIXED with a period in range. -/
theorem modeArg_eq_some {b : Byte} {period : Nat} {m : ResolveMode} (h : modeArg b period = some m) :
    b = 0 ∨ b = 1 ∧ 300 ≤ period ∧ period ≤ 20000 := by
  unfold modeArg at h
  split at h
  next hb => exact .inl (eq_byte_of_toNat hb)
  next hb =>
    split at h
    next hperiod => exact .inr ⟨eq_byte_of_toNat hb, by simpa [periodOk] using hperiod⟩
    next => exact nomatch h
  next => exact nomatch h

/-- Distinct slots are at most eight. -/
theorem slots_length_le {ns : List SlotNo} (h : ns.Nodup) : ns.length ≤ 8 := by
  have hcard := h.length_le_card
  rwa [Fintype.card_fin] at hcard

/-- What RESOLVE's payload must be, and the request it makes. -/
theorem resolveArg_eq_some_iff {p : List Byte} {r : ResolveRequest} :
    resolveArg p = some r ↔ ∃ (ns : List SlotNo) (md p0 p1 hot acc : Byte) (m : ResolveMode) (h a : Bool),
      p = BitVec.ofNat 8 ns.length :: ns.map (fun n => BitVec.ofNat 8 n.val) ++ [md, p0, p1, hot, acc] ∧ ns.Nodup ∧
        ns ≠ [] ∧ modeArg md (ofLe2 p0 p1) = some m ∧ boolArg hot = some h ∧ boolArg acc = some a ∧
          r = { slots := ascending ns, mode := m, hot := h, acceptSuspect := a } := by
  constructor
  · intro harg
    unfold resolveArg at harg
    split at harg
    next => exact nomatch harg
    next n rest =>
      split at harg
      next md p0 p1 hot acc ns hdrop hslots =>
        split at harg
        next m h a hm hh ha =>
          split at harg
          next hcount =>
            cases harg
            obtain ⟨hpos, _, hnodup⟩ := hcount
            have hbytes := slotsArg_eq_some_iff.mp hslots
            have hrest : rest = ns.map (fun n => BitVec.ofNat 8 n.val) ++ [md, p0, p1, hot, acc] := by
              rw [← hbytes, ← hdrop, List.take_append_drop]
            have hn : n = BitVec.ofNat 8 ns.length := by
              have htake := congrArg List.length hbytes
              have hleft := congrArg List.length hdrop
              simp only [List.length_take, List.length_drop, List.length_map, List.length_cons,
                List.length_nil] at htake hleft
              exact eq_byte_of_toNat (by omega)
            exact ⟨ns, md, p0, p1, hot, acc, m, h, a, by rw [hrest, hn]; rfl, hnodup, List.length_pos_iff.mp hpos, hm, hh,
              ha, rfl⟩
          next => exact nomatch harg
        next => exact nomatch harg
      next => exact nomatch harg
  · rintro ⟨ns, md, p0, p1, hot, acc, m, h, a, rfl, hnodup, hne, hm, hh, ha, rfl⟩
    have hle := slots_length_le hnodup
    have hcount : (BitVec.ofNat 8 ns.length).toNat = (ns.map fun n => BitVec.ofNat 8 n.val).length := by
      rw [List.length_map, BitVec.toNat_ofNat, Nat.mod_eq_of_lt (by omega)]
    have hrange : 1 ≤ ns.length ∧ ns.length ≤ 8 ∧ ns.Nodup := ⟨List.length_pos_iff.mpr hne, hle, hnodup⟩
    rw [List.cons_append, resolveArg]
    simp only [hcount, List.drop_left, List.take_left, slotsArg_eq_some_iff.mpr rfl, hm, hh, ha, if_pos hrange]

/-- A payload that breaks one of R134's conditions is no RESOLVE. -/
theorem resolveArg_eq_none {p : List Byte}
    (hp : ∀ (slots : List Byte) (mode p0 p1 hot acc : Byte),
      p = BitVec.ofNat 8 slots.length :: slots ++ [mode, p0, p1, hot, acc] →
        slots = [] ∨ 8 < slots.length ∨ (∃ b ∈ slots, 8 ≤ b.toNat) ∨ ¬ slots.Nodup ∨ 2 ≤ mode.toNat ∨
          (mode = 1 ∧ (p0.toNat + 256 * p1.toNat < 300 ∨ 20000 < p0.toNat + 256 * p1.toNat)) ∨ 2 ≤ hot.toNat ∨
          2 ≤ acc.toNat) : resolveArg p = none := by
  have hflag {b : Byte} {v : Bool} (h : boolArg b = some v) : b.toNat < 2 := by
    rw [boolArg_eq_some_iff.mp h]
    cases v <;> decide
  refine Option.eq_none_iff_forall_ne_some.mpr fun r harg => ?_
  obtain ⟨ns, md, p0, p1, hot, acc, m, h, a, hbytes, hnodup, hne, hm, hh, ha, _⟩ := resolveArg_eq_some_iff.mp harg
  have hle := slots_length_le hnodup
  rcases hp (ns.map fun n => BitVec.ofNat 8 n.val) md p0 p1 hot acc (by rw [List.length_map]; exact hbytes) with
    hnone | hmany | ⟨b, hb, hslot⟩ | htwice | hmode | ⟨hfixed, hperiod⟩ | hhot | hacc
  · exact hne (List.map_eq_nil_iff.mp hnone)
  · rw [List.length_map] at hmany
    omega
  · obtain ⟨n, _, rfl⟩ := List.mem_map.mp hb
    exact absurd (slotArg_eq_some (slotArg_slot n)) (not_lt.mpr hslot)
  · refine htwice (hnodup.map fun n k hnk => Option.some.inj ?_)
    rw [← slotArg_slot n, ← slotArg_slot k]
    exact congrArg slotArg hnk
  · rcases modeArg_eq_some hm with rfl | ⟨rfl, _⟩
    · exact absurd hmode (by decide)
    · exact absurd hmode (by decide)
  · rcases modeArg_eq_some hm with hzero | ⟨_, hlow, hhigh⟩
    · exact absurd (hzero.symm.trans hfixed) (by decide)
    · simp only [ofLe2] at hlow hhigh
      omega
  · exact absurd (hflag hh) (not_lt.mpr hhot)
  · exact absurd (hflag ha) (not_lt.mpr hacc)

theorem mem_ascending {ns : List SlotNo} {n : SlotNo} : n ∈ ascending ns ↔ n ∈ ns := by simp [ascending]

/-- A set in ascending order is its own ascending order. -/
theorem ascending_ascending (ns : List SlotNo) : ascending (ascending ns) = ascending ns :=
  List.filter_congr fun n _ => by rw [Bool.eq_iff_iff, List.contains_iff_mem, List.contains_iff_mem, mem_ascending]

theorem ascending_ne_nil {ns : List SlotNo} (h : ns ≠ []) : ascending ns ≠ [] := by
  obtain ⟨n, hn⟩ := List.exists_mem_of_ne_nil ns h
  exact List.ne_nil_of_mem (mem_ascending.mpr hn)

/-- The set of a request that is read: not empty, in ascending order. -/
theorem slots_of_resolveArg {p : List Byte} {r : ResolveRequest} (h : resolveArg p = some r) :
    r.slots ≠ [] ∧ ascending r.slots = r.slots := by
  obtain ⟨ns, _, _, _, _, _, _, _, _, _, _, hne, _, _, _, rfl⟩ := resolveArg_eq_some_iff.mp h
  exact ⟨ascending_ne_nil hne, ascending_ascending ns⟩

/-! ### The next free handle (R132) -/

theorem succHandle_ne_zero {h : Byte} : succHandle h ≠ 0 := by
  unfold succHandle
  split
  next => decide
  next hne =>
    intro hz
    bv_omega

/-- The handles go round 1 to 255. -/
theorem iterate_succHandle_toNat {h : Byte} (hne : h ≠ 0) (i : Nat) :
    (succHandle^[i] h).toNat = (h.toNat - 1 + i) % 255 + 1 := by
  have hpos : h.toNat ≠ 0 := fun hz => hne (BitVec.eq_of_toNat_eq hz)
  induction i with
  | zero =>
    have hlt := h.isLt
    rw [Function.iterate_zero_apply]
    omega
  | succ i ih =>
    rw [Function.iterate_succ_apply', succHandle]
    split
    next hlast =>
      rw [hlast] at ih
      simp only [BitVec.reduceToNat] at ih ⊢
      omega
    next hother =>
      have hne255 : (succHandle^[i] h).toNat ≠ 255 := fun h255 => hother (BitVec.eq_of_toNat_eq h255)
      rw [BitVec.toNat_add, ih, show (1 : Byte).toNat = 1 from rfl]
      omega

theorem iterate_succHandle_ne_zero {h : Byte} (hne : h ≠ 0) (i : Nat) : succHandle^[i] h ≠ 0 := fun hz => by
  have htoNat := iterate_succHandle_toNat hne i
  rw [hz] at htoNat
  exact Nat.succ_ne_zero _ htoNat.symm

/-- Six handles one after another are distinct. -/
theorem six_handles_nodup {h : Byte} (hne : h ≠ 0) : ((List.range 6).map fun i => succHandle^[i] h).Nodup := by
  refine List.Nodup.map_on (fun i hi j hj hij => ?_) List.nodup_range
  have htoNat := congrArg BitVec.toNat hij
  rw [iterate_succHandle_toNat hne, iterate_succHandle_toNat hne] at htoNat
  rw [List.mem_range] at hi hj
  omega

/-- The search goes on exactly while the handle it looks at is held. -/
theorem searchHandle_spec (held : List Byte) (k : Nat) (h : Byte) :
    ∃ i ≤ k, searchHandle held k h = succHandle^[i] h ∧ (∀ j < i, succHandle^[j] h ∈ held) ∧
      (i < k → succHandle^[i] h ∉ held) := by
  induction k generalizing h with
  | zero =>
    exact ⟨0, Nat.le_refl 0, rfl, fun j hj => absurd hj (Nat.not_lt_zero j), fun hlt => absurd hlt (Nat.lt_irrefl 0)⟩
  | succ k ih =>
    rw [searchHandle]
    split
    next hheld =>
      obtain ⟨i, hi, hfound, hbefore, hfree⟩ := ih (succHandle h)
      refine ⟨i + 1, Nat.succ_le_succ hi, hfound, fun j hj => ?_, fun hlt => hfree (Nat.lt_of_succ_lt_succ hlt)⟩
      cases j with
      | zero => exact List.contains_iff_mem.mp hheld
      | succ j => exact hbefore j (Nat.lt_of_succ_lt_succ hj)
    next hfree =>
      exact ⟨0, Nat.zero_le _, rfl, fun j hj => absurd hj (Nat.not_lt_zero j),
        fun _ hmem => hfree (List.contains_iff_mem.mpr hmem)⟩

/-- Five entries leave one of six handles free. -/
theorem searchHandle_free {held : List Byte} (hlength : held.length ≤ 5) {h : Byte} (hne : h ≠ 0) :
    ∃ i ≤ 5, searchHandle held 6 h = succHandle^[i] h ∧ (∀ j < i, succHandle^[j] h ∈ held) ∧ succHandle^[i] h ∉ held := by
  obtain ⟨i, hi, hfound, hbefore, hfree⟩ := searchHandle_spec held 6 h
  have hlt : i < 6 := by
    by_contra hsix
    have hall : ((List.range 6).map fun i => succHandle^[i] h) ⊆ held := fun x hx => by
      obtain ⟨j, hj, rfl⟩ := List.mem_map.mp hx
      exact hbefore j ((List.mem_range.mp hj).trans_le (not_lt.mp hsix))
    have hcount := ((six_handles_nodup hne).subperm hall).length_le
    rw [List.length_map, List.length_range] at hcount
    omega
  exact ⟨i, Nat.le_of_lt_succ hlt, hfound, hbefore, hfree hlt⟩

/-! ### Eviction (R135) -/

/-- In a full table the oldest entry that may be evicted goes. -/
theorem evict_full {s : State} {front back : List Entry} {e : Entry} (hs : s.entries = front ++ e :: back)
    (hsix : 6 ≤ s.entries.length) (he : evictable e = true) (hfront : ∀ x ∈ front, evictable x = false) :
    evict s = { s with entries := front ++ back } := by
  have hleft : s.entries.eraseP evictable = front ++ back := by
    rw [hs, List.eraseP_append_right _ fun x hx => Bool.eq_false_iff.mp (hfront x hx), List.eraseP_cons_of_pos he]
  exact hleft ▸ if_neg (not_lt.mpr hsix)

theorem hasRoom_iff {s : State} : hasRoom s = true ↔ s.entries.length < 6 ∨ ∃ e ∈ s.entries, evictable e = true := by
  rw [hasRoom, Bool.or_eq_true, decide_eq_true_eq, List.any_eq_true]
  rfl

/-- With room there is a FREE entry, or an oldest one that is evicted. -/
theorem evict_cases {s : State} (h : hasRoom s = true) :
    s.entries.length < 6 ∧ evict s = s ∨
      ∃ front back e, s.entries = front ++ e :: back ∧ evictable e = true ∧
        evict s = { s with entries := front ++ back } := by
  by_cases hfree : s.entries.length < 6
  · exact .inl ⟨hfree, if_pos hfree⟩
  · obtain ⟨x, hx, hevictable⟩ := (hasRoom_iff.mp h).resolve_left hfree
    obtain ⟨e, front, back, hfront, he, hs, _⟩ := List.exists_of_eraseP hx hevictable
    exact .inr ⟨front, back, e, hs, he, evict_full hs (not_lt.mp hfree) he fun y hy => Bool.eq_false_iff.mpr (hfront y hy)⟩

/-! ### The owner -/

theorem exec_resolve_taken {tag : Byte} {s : State} (h : Taken s tag 0x20) (p : List Byte) :
    exec (.resolve tag p) s = .next (ownResolve tag p s) :=
  congrArg Host.Outcome.next (acceptFrame_taken (kind := kindResolve) (ownResolve tag p) h (by decide))

theorem ownResolve_malformed {p : List Byte} (h : resolveArg p = none) (tag : Byte) (s : State) :
    ownResolve tag p s = withReply tag 0x20 .badArgument [] s := by
  simp only [ownResolve, h]
  rfl

theorem ownResolve_full {p : List Byte} {r : ResolveRequest} (h : resolveArg p = some r) {s : State}
    (hroom : hasRoom s = false) (tag : Byte) : ownResolve tag p s = withReply tag 0x20 .tableFull [] s := by
  simp only [ownResolve, h, hroom, Bool.false_eq_true, if_false]
  rfl

theorem ownResolve_room {p : List Byte} {r : ResolveRequest} (h : resolveArg p = some r) {s : State}
    (hroom : hasRoom s = true) (tag : Byte) : ownResolve tag p s = takeResolve tag r s := by
  simp only [ownResolve, h, hroom, if_true]

/-- Settles O45: the payload's check, the room, then the first free handle from the counter on. -/
theorem resolveIsTaken : Obligations.ResolveIsTaken := by
  refine ⟨fun tag slots mode p0 p1 hot acc s htaken htable hnodup hne hfixed => ?_, fun tag p s htaken hp => ?_⟩
  · intro payload run
    obtain ⟨_, _, hcounter, _, _⟩ := htable
    have hmode : modeArg (if mode = .fastest then 0 else 1) (ofLe2 p0 p1) = some mode := by
      cases mode with
      | fastest => exact modeArg_fastest _
      | fixed q =>
        obtain ⟨hq, hlow, hhigh⟩ := hfixed q rfl
        obtain rfl : q = ofLe2 p0 p1 := hq
        exact modeArg_fixed (by simp [periodOk, hlow, hhigh])
    have hflag (v : Bool) : boolArg (if v = true then 1 else 0) = some v := by cases v <;> rfl
    have harg : resolveArg payload =
        some { slots := ascending slots, mode := mode, hot := hot, acceptSuspect := acc } :=
      resolveArg_eq_some_iff.mpr
        ⟨slots, _, p0, p1, _, _, mode, hot, acc, rfl, hnodup, hne, hmode, hflag hot, hflag acc, rfl⟩
    have hrun : run = .next (ownResolve tag payload s) := exec_resolve_taken htaken payload
    refine ⟨fun hsix hnone => ?_, fun kept hkept => ?_⟩
    · have hroom : hasRoom s = false := Bool.eq_false_iff.mpr fun h => by
        rcases hasRoom_iff.mp h with hfree | ⟨e, he, hevictable⟩
        · omega
        · exact nomatch (hnone e he).symm.trans hevictable
      rw [hrun, ownResolve_full harg hroom]
    · obtain ⟨hroom, hevicted, hfive⟩ :
          hasRoom s = true ∧ evict s = { s with entries := kept } ∧ kept.length ≤ 5 := by
        rcases hkept with ⟨hfree, rfl⟩ | ⟨front, back, e, hs, hsix, hevictable, hfront, rfl⟩
        · exact ⟨hasRoom_iff.mpr (.inl hfree), if_pos hfree, Nat.le_of_lt_succ hfree⟩
        · have hroom : hasRoom s = true := hasRoom_iff.mpr (.inr ⟨e, by simp [hs], hevictable⟩)
          refine ⟨hroom, ?_, ?_⟩
          · exact evict_full hs hsix.ge hevictable hfront
          · rw [hs, List.length_append, List.length_cons] at hsix
            rw [List.length_append]
            omega
      obtain ⟨k, hk, hfound, hbefore, hfree⟩ :=
        searchHandle_free (held := kept.map Entry.handle) (by rwa [List.length_map]) hcounter
      refine ⟨succHandle^[k] s.nextHandle, iterate_succHandle_ne_zero hcounter k,
        fun e he heq => hfree (heq ▸ List.mem_map_of_mem he), ⟨k, hk, rfl, fun i hi => ?_⟩, ?_⟩
      · exact List.mem_map.mp (hbefore i hi)
      · rw [hrun, ownResolve_room harg hroom, takeResolve, hevicted, allocate, ← hfound]
        rfl
  · rw [exec_resolve_taken htaken, ownResolve_malformed (resolveArg_eq_none hp)]

end Sys2Proof.Machine
end

section
/-! Staleness by slots (R139, R140), and the completion of a resolution (R110, R136 to R138). -/

namespace Sys2Proof.Machine

/-! ### The entries an increment strikes -/

/-- The entry is VALID and its set holds an incremented slot. -/
def struckBy (hit : SlotNo → Bool) (e : Entry) : Bool := isValid e && e.request.slots.any hit

/-- A snapshot of the entry's own set is hit exactly where the set is. -/
theorem snapshotHit_eq {e : Entry} {sn : Snapshot} (h : sn.gens.map Prod.fst = e.request.slots) (hit : SlotNo → Bool) :
    snapshotHit hit sn = e.request.slots.any hit := by
  rw [← h, List.any_map]
  rfl

section Struck
variable {e : Entry} (h : ∀ sn, snapshotOf e = some sn → sn.gens.map Prod.fst = e.request.slots) (hit : SlotNo → Bool)
include h

/-- A VALID entry is struck exactly where its snapshot is hit. -/
theorem struckBy_of_valid {sn : Snapshot} {p : Profile} (hst : e.state = .valid sn p) :
    struckBy hit e = snapshotHit hit sn := by
  rw [struckBy, isValid_iff.mpr ⟨sn, p, hst⟩, Bool.true_and, snapshotHit_eq (h sn (by rw [snapshotOf, hst]))]

theorem staleEntry_eq :
    staleEntry hit e = if struckBy hit e = true then
      match e.state with
      | .valid sn p => { e with state := .stale sn p }
      | _ => e
    else e := by
  cases hst : e.state with
  | valid sn p => simp only [staleEntry, hst, struckBy_of_valid h hit hst]
  | _ => simp only [staleEntry, hst, ite_self]

theorem staleNotice_eq :
    staleNotice hit e = if struckBy hit e = true then
      if e.applied = true then (e.request.slots.find? hit).map (NoticeBody.appliedBroken e.handle)
      else some (.profileStale e.handle)
    else none := by
  cases hst : e.state with
  | valid sn p => simp only [staleNotice, hst, struckBy_of_valid h hit hst]
  | _ => simp [staleNotice, struckBy, isValid, hst]

end Struck

/-- Settles O41: each entry's own staleness and notice, told by its set. -/
theorem incrementStalesItsEntries : Obligations.IncrementStalesItsEntries := by
  intro hit s h struck
  have hnotices : s.entries.filterMap (staleNotice hit) = (s.entries.filter struck).filterMap fun e =>
      if e.applied = true then (e.request.slots.find? hit).map (NoticeBody.appliedBroken e.handle)
      else some (.profileStale e.handle) := by
    rw [List.filterMap_filter]
    exact List.filterMap_congr fun e he => staleNotice_eq (h e he) hit
  rw [staleSlots, hnotices, List.map_congr_left fun e he => staleEntry_eq (h e he) hit]
  rfl

/-! ### The completion (R110, R136 to R138) -/

/-- The one BUILDING entry is the one found. -/
theorem ResolverReady.find_building {s : State} (h : ResolverReady s) {e : Entry} (he : e ∈ s.entries)
    (hst : isBuilding e = true) : s.entries.find? isBuilding = some e := by
  have hone := h.one_building he hst
  obtain ⟨front, back, hs⟩ := List.append_of_mem he
  rw [hs, List.countP_append, List.countP_cons_of_pos hst] at hone
  have hfront : front.countP isBuilding = 0 := by omega
  exact List.find?_eq_some_iff_append.mpr
    ⟨hst, front, back, hs, fun x hx => by simpa using List.countP_eq_zero.mp hfront x hx⟩

theorem Inv.profilesOk {s : State} (h : Inv s) : ProfilesOk s := ⟨h.table, h.resolver⟩

/-- While the Resolver works, RESOLUTION_COMPLETE completes the BUILDING entry. -/
theorem exec_resolutionComplete_building {s : State} (h : ResolverReady s) {w : Work} (hw : s.work = some w) {e : Entry}
    (he : e ∈ s.entries) {tag : Byte} {sn : Snapshot} (hst : e.state = .building tag sn) :
    exec .resolutionComplete s = .next (resolutionEnd w e tag sn s) := by
  have hfind := h.find_building he (isBuilding_iff.mpr ⟨tag, sn, hst⟩)
  simp only [exec, execResolutionComplete, hw, hfind, hst]

/-- Settles O26: the judgement tells the entry's state, and with it the reply. -/
theorem completionIsJudged : Obligations.CompletionIsJudged := by
  intro s w e tag sn h hw he hst current done
  obtain ⟨o, ho, _⟩ := h.profile_of_mem he (g := tag) (by rw [requestTag, hst])
  have hmem : tag ∈ s.inbox.map Outstanding.tag :=
    List.mem_map.mpr ⟨o, List.mem_of_find?_eq_some ho, tag_of_find ho⟩
  have hdone {st : EntryState} {status : Status} {record : List Byte} (hjudge : judge s sn (resolveWork w) = st)
      (hreply : completionReply { e with state := st } = (status, e.handle :: record)) :
      exec .resolutionComplete s = .next (done st status record) := by
    rw [exec_resolutionComplete_building h.profilesOk.ready hw he hst, resolutionEnd, hjudge]
    dsimp only
    rw [hreply, endRequest_present _ _ (by exact h.distinctTags) (by exact hmem)]
    rfl
  refine ⟨fun f hf => hdone (by rw [hf]; rfl) rfl, fun p hp hcurrent => hdone ?_ rfl, fun p hp hcurrent => hdone ?_ rfl⟩
  · rw [hp]
    exact if_pos (snapshotCurrent_iff.mpr hcurrent)
  · rw [hp]
    exact if_neg fun hc => hcurrent (snapshotCurrent_iff.mp hc)

end Sys2Proof.Machine
end

section
/-! Frames at the Profile Table and the Resolver (R58, R59, R95, R132 to R146, R164, R165): every owner keeps them right. -/

namespace Sys2Proof.Machine

/-! ### What leaves Table and Resolver as they were -/

theorem profileAlike_answer (tag kind : Byte) (st : Status) (payload : List Byte) (s : State) :
    ProfileAlike s (answer tag kind st payload s) := profileAlike_of_eq rfl rfl rfl rfl rfl

theorem profileAlike_raise (b : NoticeBody) (s : State) : ProfileAlike s (raise b s) :=
  profileAlike_of_eq (by simp) (by simp) (by simp) (by simp) (by simp)

theorem profileAlike_endRequest (st : Status) (payload : List Byte) (tag : Byte) (s : State) :
    ProfileAlike s (endRequest st payload tag s) :=
  profileAlike_of_eq (by simp) (by simp) (by simp) (by simp) (by simp)

theorem profileAlike_endTags (st : Status) (payload tags : List Byte) (s : State) :
    ProfileAlike s (endTags st payload tags s) :=
  profileAlike_of_eq (by simp) (by simp) (by simp) (by simp) (by simp)

theorem profileAlike_startNext (s : State) : ProfileAlike s (startNext s) :=
  profileAlike_of_eq (by simp) (by simp) (by simp) (by simp) (by simp)

theorem profileAlike_finishJob (s : State) : ProfileAlike s (finishJob s) :=
  profileAlike_of_eq (by simp) (by simp) (by simp) (by simp) (by simp)

theorem profileAlike_endStopped (f : InFlight) (s : State) : ProfileAlike s (endStopped f s) :=
  profileAlike_of_eq (by simp) (by simp) (by simp) (by simp) (by simp)

theorem profileAlike_markToStop (f : InFlight) (s : State) : ProfileAlike s (markToStop f s) :=
  profileAlike_of_eq (by simp) (by simp) (by simp) (by simp) (by simp)

theorem profileAlike_demandScan (n : SlotNo) (p : Bool) (ts : List Byte) (s : State) :
    ProfileAlike s (demandScan n p ts s) :=
  profileAlike_of_eq (by simp) (by simp) (by simp) (by simp) (by simp)

theorem profileAlike_takeJob (tag kind : Byte) (w : JobWork) (s : State) : ProfileAlike s (takeJob tag kind w s) :=
  profileAlike_of_eq (by simp [takeJob]) (by simp [takeJob]) (by simp [takeJob]) (by simp [takeJob]) (by simp [takeJob])

section Alike
variable (tag : Byte) (payload : List Byte) (s : State)

theorem profileAlike_ownConfigure : ProfileAlike s (ownConfigure tag payload s) := by
  unfold ownConfigure
  split
  next => exact profileAlike_answer ..
  next => exact profileAlike_of_eq rfl rfl rfl rfl rfl

theorem profileAlike_ownSetLadder : ProfileAlike s (ownSetLadder tag payload s) := by
  unfold ownSetLadder
  split
  next => exact profileAlike_answer ..
  next => exact profileAlike_of_eq rfl rfl rfl rfl rfl

theorem profileAlike_ownGetSlot : ProfileAlike s (ownGetSlot tag payload s) := by
  unfold ownGetSlot
  split
  next => exact profileAlike_answer ..
  next =>
    split
    next => exact profileAlike_answer ..
    next => exact profileAlike_answer ..

theorem profileAlike_ownReadImage : ProfileAlike s (ownReadImage tag payload s) := by
  unfold ownReadImage
  split
  next => exact profileAlike_answer ..
  next =>
    split
    next => exact profileAlike_answer ..
    next => exact profileAlike_answer ..

theorem profileAlike_ownReadModule : ProfileAlike s (ownReadModule tag payload s) := by
  unfold ownReadModule
  split
  next => exact profileAlike_answer ..
  next =>
    split_ifs
    · exact profileAlike_answer ..
    · exact profileAlike_answer ..
    · exact profileAlike_takeJob ..

theorem profileAlike_ownWriteUser : ProfileAlike s (ownWriteUser tag payload s) := by
  unfold ownWriteUser
  split
  next => exact profileAlike_answer ..
  next =>
    split_ifs
    · exact profileAlike_answer ..
    · exact profileAlike_answer ..
    · exact profileAlike_answer ..
    · exact profileAlike_answer ..
    · exact profileAlike_takeJob ..

theorem profileAlike_ownRescan : ProfileAlike s (ownRescan tag payload s) := by
  unfold ownRescan
  split
  next => exact profileAlike_answer ..
  next =>
    split_ifs
    · exact profileAlike_answer ..
    · exact profileAlike_answer ..
    · exact profileAlike_answer ..
    · have hjoined : ProfileAlike s (joinInbox tag kindRescan .busJob s) := profileAlike_of_eq rfl rfl rfl rfl rfl
      exact hjoined.trans (profileAlike_demandScan ..)

theorem profileAlike_ownBusReset : ProfileAlike s (ownBusReset tag payload s) := by
  unfold ownBusReset
  split
  next => exact profileAlike_of_eq rfl rfl rfl rfl rfl
  next => exact profileAlike_takeJob ..

theorem profileAlike_ownFetchNotices : ProfileAlike s (ownFetchNotices tag payload s) := by
  unfold ownFetchNotices
  split
  next => exact profileAlike_answer ..
  next => exact profileAlike_of_eq rfl rfl rfl rfl rfl

theorem profileAlike_cancelledThenOk (t : Byte) : ProfileAlike s (cancelledThenOk tag t s) :=
  (profileAlike_endRequest ..).trans (profileAlike_answer ..)

theorem profileAlike_dropFlightClaim (t : Byte) (f : InFlight) : ProfileAlike s (dropFlightClaim t f s) := by
  unfold dropFlightClaim
  dsimp only
  split
  next => exact profileAlike_markToStop ..
  next => exact profileAlike_of_eq rfl rfl rfl rfl rfl

theorem profileAlike_cancelJob (t : Byte) : ProfileAlike s (cancelJob tag t s) := by
  unfold cancelJob
  split
  next =>
    have hqueue : ProfileAlike s { s with jobs := dropClaim t s.jobs } := profileAlike_of_eq rfl rfl rfl rfl rfl
    exact hqueue.trans (profileAlike_cancelledThenOk ..)
  next =>
    split
    next f _ =>
      split
      next =>
        cases hreading : isReading f.job with
        | true =>
          rw [cancelInFlight_reading hreading]
          exact (profileAlike_cancelledThenOk ..).trans (profileAlike_dropFlightClaim ..)
        | false =>
          rw [cancelInFlight_not_reading hreading]
          exact profileAlike_answer ..
      next => exact profileAlike_answer ..
    next => exact profileAlike_answer ..

end Alike

/-! ### Changes of generations (R58, R59, R95, R96) -/

/-- A record put in place with the generation of the one before it. -/
theorem gen_set {v : Eight Slot} {n : SlotNo} {r : Slot} (h : r.gen = (v.get n).gen) (m : SlotNo) :
    ((v.set n r).get m).gen = (v.get m).gen := by
  rw [Eight.get_set]
  split
  next hm => rw [h, hm]
  next => rfl

theorem ProfilesOk.changeOverrides {s : State} (h : ProfilesOk s) (n : SlotNo) (os : List Override) :
    ProfilesOk (changeOverrides n os s) := by
  refine h.incremented (hit := fun m => m == n) (fun m hm => ?_) (by simp [Machine.changeOverrides]) ?_
    (by simp [Machine.changeOverrides]) (by simp [Machine.changeOverrides])
  · rw [Machine.changeOverrides, staleSlots_slots, Eight.get_set_other _ _ (by simpa using hm)]
  · rw [Machine.changeOverrides, staleSlots_entries]

theorem ProfilesOk.ownSetOverride {s : State} (h : ProfilesOk s) (tag : Byte) (payload : List Byte) :
    ProfilesOk (ownSetOverride tag payload s) := by
  unfold Machine.ownSetOverride
  split
  next => exact h.congr (profileAlike_answer ..)
  next =>
    split_ifs
    · exact h.congr (profileAlike_answer ..)
    · exact h.congr (profileAlike_answer ..)
    · exact h.congr (profileAlike_answer ..)
    · refine ProfilesOk.congr ?_ (profileAlike_answer ..)
      unfold acceptOverride
      split
      next => exact h
      next => exact h.changeOverrides ..

theorem ProfilesOk.ownClearOverrides {s : State} (h : ProfilesOk s) (tag : Byte) (payload : List Byte) :
    ProfilesOk (ownClearOverrides tag payload s) := by
  unfold Machine.ownClearOverrides
  split
  next => exact h.congr (profileAlike_answer ..)
  next =>
    split_ifs
    · exact h.congr (profileAlike_answer ..)
    · exact h.congr (profileAlike_answer ..)
    · refine ProfilesOk.congr ?_ (profileAlike_answer ..)
      unfold acceptClear
      split
      next => exact h
      next => exact h.changeOverrides ..

theorem ProfilesOk.replaceTarget {s : State} (h : ProfilesOk s) (t : Target) : ProfilesOk (replaceTarget t s) :=
  h.aged (fun e _ => agedTo_staleByTarget _ e) (by simp [Machine.replaceTarget, staleAll]) (by simp [Machine.replaceTarget])
    (by simp [Machine.replaceTarget])

theorem ProfilesOk.ownSetTarget {s : State} (h : ProfilesOk s) (tag : Byte) (payload : List Byte) :
    ProfilesOk (ownSetTarget tag payload s) := by
  unfold Machine.ownSetTarget
  split
  next => exact h.congr (profileAlike_answer ..)
  next t _ =>
    split
    next => exact h.congr (profileAlike_answer ..)
    next => exact (h.replaceTarget t).congr (profileAlike_answer ..)

/-! ### Requests that name a handle (R142 to R147) -/

theorem ProfilesOk.withEntry {s : State} (h : ProfilesOk s) (tag kind : Byte) (payload : List Byte)
    {act : Entry → State → State} (hact : ∀ e ∈ s.entries, ProfilesOk (act e s)) :
    ProfilesOk (withEntry tag kind payload act s) := by
  unfold Machine.withEntry
  split
  next => exact h.congr (profileAlike_answer ..)
  next =>
    split
    next => exact h.congr (profileAlike_answer ..)
    next he => exact hact _ (entryAt_mem he)

theorem not_building_of_holdsResult {e : Entry} (h : holdsResult e = true) : isBuilding e = false := by
  unfold holdsResult at h
  unfold isBuilding
  split at h <;> simp_all

theorem not_queued_of_holdsResult {e : Entry} (h : holdsResult e = true) : isQueued e = false := by
  unfold holdsResult at h
  unfold isQueued
  split at h <;> simp_all

/-- The mark of an entry with a result is set where none is applied, or cleared. -/
theorem ProfilesOk.setApplied {s : State} (h : ProfilesOk s) {e : Entry} (he : e ∈ s.entries)
    (hst : holdsResult e = true) (b : Bool) (hb : b = true → ∀ x ∈ s.entries, x.applied = false) :
    ProfilesOk (setEntry e.handle { e with applied := b } s) := by
  have hready := h.ready
  have hqueued := h.none_queued
  obtain ⟨front, back, hs⟩ := List.append_of_mem he
  have hok' : EntryOk s { e with applied := b } := by
    obtain ⟨hhandle, hslots, hascending, _, hsnapshot, hcurrent⟩ := h.table.entryOk he
    exact ⟨hhandle, hslots, hascending, fun _ => hst, hsnapshot, hcurrent⟩
  have hnone : ¬ isQueued e = true := Bool.eq_false_iff.mp (not_queued_of_holdsResult hst)
  rw [setEntry_eq hs h.table.nodup]
  refine ⟨h.table.replace hs rfl rfl (fun hnew => .inr (hb hnew)) hok' ⟨fun _ => rfl, rfl⟩ rfl,
    resolverInv_iff.mpr ⟨hready.replace hs rfl (not_building_of_holdsResult hst) (not_building_of_holdsResult hst) rfl,
      fun hw => ?_⟩⟩
  have hfree := hqueued hw
  rw [hs, List.countP_append, List.countP_cons_of_neg hnone] at hfree
  dsimp only
  rwa [List.countP_append, List.countP_cons_of_neg (by exact hnone)]

theorem holdsResult_of_isValid {e : Entry} (h : isValid e = true) : holdsResult e = true := by
  obtain ⟨sn, p, hst⟩ := isValid_iff.mp h
  rw [holdsResult, hst]

theorem ProfilesOk.ownApply {s : State} (h : ProfilesOk s) (tag : Byte) (payload : List Byte) :
    ProfilesOk (ownApply tag payload s) := by
  refine h.withEntry _ _ _ fun e he => ?_
  unfold applyEntry
  split
  next => exact h.congr (profileAlike_answer ..)
  next =>
    split
    next => exact h.congr (profileAlike_answer ..)
    next hnone =>
      split
      next => exact h.congr (profileAlike_answer ..)
      next hvalid =>
        have hst : holdsResult e = true := holdsResult_of_isValid (by simpa using hvalid)
        exact (h.setApplied he hst true fun _ => anyApplied_eq_false_iff.mp (Bool.eq_false_iff.mpr hnone)).congr
          (profileAlike_answer ..)

theorem ProfilesOk.ownUnapply {s : State} (h : ProfilesOk s) (tag : Byte) (payload : List Byte) :
    ProfilesOk (ownUnapply tag payload s) := by
  refine h.withEntry _ _ _ fun e he => ?_
  unfold unapplyEntry
  split
  next happlied =>
    obtain ⟨_, _, _, hmark, _⟩ := h.table.entryOk he
    exact (h.setApplied he (hmark happlied) false fun hb => nomatch hb).congr (profileAlike_answer ..)
  next => exact h.congr (profileAlike_answer ..)

/-! ### Entries that become FREE (R145, R146, R165) -/

theorem freeEntry_sublist (k : Byte) (s : State) : (freeEntry k s).entries.Sublist s.entries := List.filter_sublist

/-- An entry that is not BUILDING becomes FREE. -/
theorem ProfilesOk.freeEntry {s : State} (h : ProfilesOk s) {e : Entry} (he : e ∈ s.entries)
    (hst : isBuilding e = false) : ProfilesOk (freeEntry e.handle s) := by
  obtain ⟨front, back, hs⟩ := List.append_of_mem he
  have hsub := freeEntry_sublist e.handle s
  refine ⟨h.table.sublist hsub ⟨fun _ => rfl, rfl⟩ rfl, resolverInv_iff.mpr ⟨?_, fun hw => ?_⟩⟩
  · exact h.ready.remove hs (congrArg State.entries (freeEntry_eq hs h.table.nodup)) hst rfl
  · exact Nat.le_zero.mp (hsub.countP_le.trans (h.none_queued hw).le)

/-- R109: the BUILDING entry becomes FREE and its work is abandoned. -/
theorem ProfilesOk.freeBuilding {s : State} (h : ProfilesOk s) {e : Entry} (he : e ∈ s.entries)
    (hst : isBuilding e = true) : ProfilesOk (handOver { Machine.freeEntry e.handle s with work := none }) := by
  obtain ⟨front, back, hs⟩ := List.append_of_mem he
  have hone := h.ready.one_building he hst
  rw [hs, List.countP_append, List.countP_cons_of_pos hst] at hone
  refine profilesOk_handOver (h.table.sublist (freeEntry_sublist e.handle s) ⟨fun _ => rfl, rfl⟩ rfl)
    ⟨fun _ => ?_, fun w hw => nomatch hw⟩
  rw [freeEntry_eq hs h.table.nodup]
  dsimp only
  rw [List.countP_append]
  omega

theorem ProfilesOk.dropEntry {s : State} (h : ProfilesOk s) {e : Entry} (he : e ∈ s.entries) :
    ProfilesOk (dropEntry e s) := by
  unfold Machine.dropEntry
  split
  next tag hst =>
    exact (h.congr (profileAlike_endRequest .cancelled [e.handle] tag s)).freeEntry (by simpa using he)
      (by rw [isBuilding, hst])
  next tag sn hst =>
    exact (h.congr (profileAlike_endRequest .cancelled [e.handle] tag s)).freeBuilding (by simpa using he)
      (by rw [isBuilding, hst])
  next hst => exact h.freeEntry he (by rw [isBuilding, hst])
  next hst => exact h.freeEntry he (by rw [isBuilding, hst])
  next hst => exact h.freeEntry he (by rw [isBuilding, hst])

theorem ProfilesOk.ownDrop {s : State} (h : ProfilesOk s) (tag : Byte) (payload : List Byte) :
    ProfilesOk (ownDrop tag payload s) := by
  refine h.withEntry _ _ _ fun e he => ?_
  unfold dropNamed
  split
  next => exact h.congr (profileAlike_answer ..)
  next => exact (h.dropEntry he).congr (profileAlike_answer ..)

theorem ProfilesOk.ownCancel {s : State} (h : ProfilesOk s) (tag : Byte) (payload : List Byte) :
    ProfilesOk (ownCancel tag payload s) := by
  unfold Machine.ownCancel
  split
  next => exact h.congr (profileAlike_answer ..)
  next =>
    split
    next => exact h.congr (profileAlike_answer ..)
    next =>
      split
      next => exact h.congr (profileAlike_cancelJob ..)
      next =>
        unfold cancelResolve
        split
        next he => exact (h.dropEntry (List.mem_of_find?_eq_some he)).congr (profileAlike_answer ..)
        next => exact h.congr (profileAlike_answer ..)

/-- R165: neither a QUEUED nor a BUILDING entry is left, and the Resolver is IDLE. -/
theorem ProfilesOk.freeUnfinished {s : State} (h : ProfilesOk s) : ProfilesOk (freeUnfinished s) := by
  have hnone {p : Entry → Bool} (hp : ∀ e, p e = true → requestTag e ≠ none) :
      (Machine.freeUnfinished s).entries.countP p = 0 :=
    List.countP_eq_zero.mpr fun e he hpe => hp e hpe (Option.isNone_iff_eq_none.mp (List.mem_filter.mp he).2)
  refine ⟨h.table.sublist List.filter_sublist ⟨fun _ => rfl, rfl⟩ rfl,
    resolverInv_iff.mpr ⟨⟨fun _ => hnone fun e he => ?_, fun w hw => nomatch hw⟩, fun _ => hnone fun e he => ?_⟩⟩
  · obtain ⟨tag, sn, hst⟩ := isBuilding_iff.mp he
    simp [requestTag, hst]
  · obtain ⟨tag, hst⟩ := isQueued_iff.mp he
    simp [requestTag, hst]

theorem ProfilesOk.ownReset {s : State} (h : ProfilesOk s) (tag : Byte) (payload : List Byte) :
    ProfilesOk (ownReset tag payload s) := by
  unfold Machine.ownReset
  split
  next => exact h.congr (profileAlike_answer ..)
  next => exact profilesOk_of_empty rfl rfl (by simp [resetBySession, sessionReset, sessionProfiles])
  next =>
    have hbus : ProfileAlike s (sessionBus (answer tag kindReset .ok [] (abortAll s))) :=
      profileAlike_of_eq (by simp) (by simp) (by simp) (by simp) (by simp)
    exact (h.congr hbus).freeUnfinished.congr (profileAlike_of_eq rfl rfl rfl rfl rfl)

/-! ### RESOLVE (R132 to R136) -/

/-- R135: with room there is a free entry after the eviction. -/
theorem ProfilesOk.evict {s : State} (h : ProfilesOk s) (hroom : hasRoom s = true) :
    TableInv (evict s) ∧ ResolverReady (evict s) ∧ (evict s).entries.length ≤ 5 := by
  rcases evict_cases hroom with ⟨hfree, hsame⟩ | ⟨front, back, e, hs, hevictable, hevicted⟩
  · rw [hsame]
    exact ⟨h.table, h.ready, Nat.le_of_lt_succ hfree⟩
  · have hst : isBuilding e = false := Bool.eq_false_iff.mpr fun hb => by
      obtain ⟨tag, sn, hst⟩ := isBuilding_iff.mp hb
      simp [evictable, hst] at hevictable
    have hsub : (front ++ back).Sublist s.entries := hs ▸ (List.sublist_cons_self e back).append_left front
    have ⟨hlength, _⟩ := h.table
    rw [hevicted]
    refine ⟨h.table.sublist hsub ⟨fun _ => rfl, rfl⟩ rfl, h.ready.remove hs rfl hst rfl, ?_⟩
    rw [hs, List.length_append, List.length_cons, Config.profileEntries] at hlength
    dsimp only
    rw [List.length_append]
    omega

/-- A new entry at the end, with a handle no other holds (R132 to R134). -/
theorem TableInv.allocate {s : State} (h : TableInv s) (hroom : s.entries.length ≤ 5) (tag : Byte) {r : ResolveRequest}
    (hslots : r.slots ≠ []) (hascending : ascending r.slots = r.slots) : TableInv (allocate tag r s) := by
  obtain ⟨_, hnodup, hcounter, hmark, hok⟩ := h
  obtain ⟨k, _, hfound, _, hfree⟩ :=
    searchHandle_free (held := s.entries.map Entry.handle) (by rwa [List.length_map]) hcounter
  have hnew : searchHandle (s.entries.map Entry.handle) 6 s.nextHandle ∉ s.entries.map Entry.handle := hfound ▸ hfree
  refine ⟨?_, ?_, succHandle_ne_zero, ?_, fun e he => ?_⟩
  · rw [Machine.allocate, List.length_append]
    exact Nat.succ_le_succ hroom
  · rw [Machine.allocate, List.map_append]
    exact List.Nodup.append hnodup (List.nodup_singleton _) (List.disjoint_singleton.mpr hnew)
  · rw [Machine.allocate, List.countP_append]
    exact hmark
  · rcases List.mem_append.mp he with he | he
    · exact (hok e he).congr ⟨fun _ => rfl, rfl⟩
    · obtain rfl := List.mem_singleton.mp he
      refine ⟨?_, hslots, hascending, (fun hnew => nomatch hnew), (fun sn hsn => nomatch hsn), fun sn hsn => nomatch hsn⟩
      dsimp only
      rw [hfound]
      exact iterate_succHandle_ne_zero hcounter k

/-- A new entry waits. -/
theorem ResolverReady.allocate {s : State} (h : ResolverReady s) (tag : Byte) (r : ResolveRequest) :
    ResolverReady (allocate tag r s) := by
  have hcount : (Machine.allocate tag r s).entries.countP isBuilding = s.entries.countP isBuilding := by
    rw [Machine.allocate, List.countP_append]
    rfl
  refine ⟨fun hw => hcount.trans (h.idle hw), fun w hw => ⟨hcount.trans (h.working w hw).1, fun e he hb => ?_⟩⟩
  rcases List.mem_append.mp he with he | he
  · exact (h.working w hw).2 e he hb
  · obtain rfl := List.mem_singleton.mp he
    exact nomatch hb

theorem ProfilesOk.ownResolve {s : State} (h : ProfilesOk s) (tag : Byte) (payload : List Byte) :
    ProfilesOk (ownResolve tag payload s) := by
  unfold Machine.ownResolve
  split
  next => exact h.congr (profileAlike_answer ..)
  next r harg =>
    split
    next hroom =>
      obtain ⟨hslots, hascending⟩ := slots_of_resolveArg harg
      obtain ⟨htable, hready, hfive⟩ := h.evict hroom
      have hallocated := hready.allocate tag r
      exact profilesOk_handOver
        ((htable.allocate hfive tag hslots hascending).sublist (List.Sublist.refl _) ⟨fun _ => rfl, rfl⟩ rfl)
        ⟨hallocated.idle, hallocated.working⟩
    next => exact h.congr (profileAlike_answer ..)

/-! ### Every frame, byte and gap -/

theorem ProfilesOk.ownerOf {s : State} (h : ProfilesOk s) (tag kind : Byte) (payload : List Byte) :
    ProfilesOk (ownerOf tag kind payload s) := by
  unfold Machine.ownerOf
  refine iteInduction (fun _ => h.congr (profileAlike_answer ..)) fun _ => ?_
  refine iteInduction (fun _ => h.congr (profileAlike_ownConfigure ..)) fun _ => ?_
  refine iteInduction (fun _ => h.ownSetTarget ..) fun _ => ?_
  refine iteInduction (fun _ => h.congr (profileAlike_answer ..)) fun _ => ?_
  refine iteInduction (fun _ => h.congr (profileAlike_ownSetLadder ..)) fun _ => ?_
  refine iteInduction (fun _ => h.congr (profileAlike_answer ..)) fun _ => ?_
  refine iteInduction (fun _ => h.congr (profileAlike_answer ..)) fun _ => ?_
  refine iteInduction (fun _ => h.congr (profileAlike_ownGetSlot ..)) fun _ => ?_
  refine iteInduction (fun _ => h.congr (profileAlike_ownReadImage ..)) fun _ => ?_
  refine iteInduction (fun _ => h.congr (profileAlike_ownReadModule ..)) fun _ => ?_
  refine iteInduction (fun _ => h.congr (profileAlike_ownWriteUser ..)) fun _ => ?_
  refine iteInduction (fun _ => h.congr (profileAlike_ownRescan ..)) fun _ => ?_
  refine iteInduction (fun _ => h.ownSetOverride ..) fun _ => ?_
  refine iteInduction (fun _ => h.ownClearOverrides ..) fun _ => ?_
  refine iteInduction (fun _ => h.ownResolve ..) fun _ => ?_
  refine iteInduction (fun _ => h.withEntry _ _ _ fun _ _ => h.congr (profileAlike_answer ..)) fun _ => ?_
  refine iteInduction (fun _ => h.congr (profileAlike_answer ..)) fun _ => ?_
  refine iteInduction (fun _ => h.ownApply ..) fun _ => ?_
  refine iteInduction (fun _ => h.ownUnapply ..) fun _ => ?_
  refine iteInduction (fun _ => h.ownDrop ..) fun _ => ?_
  refine iteInduction (fun _ => h.congr (profileAlike_ownFetchNotices ..)) fun _ => ?_
  refine iteInduction (fun _ => h.ownCancel ..) fun _ => ?_
  refine iteInduction (fun _ => h.congr (profileAlike_ownBusReset ..)) fun _ => ?_
  exact iteInduction (fun _ => h.ownReset ..) fun _ => h

theorem linkKeeps_profilesOk : LinkKeeps ProfilesOk where
  receiver _ _ h := h.congr (profileAlike_of_eq rfl rfl rfl rfl rfl)
  dropped _ _ h := h.congr (profileAlike_raise ..)
  refused _ _ _ _ h := h.congr (profileAlike_answer ..)
  owned tag kind payload _ _ h := h.ownerOf tag kind payload

end Sys2Proof.Machine
end

section
/-! The events at the Profile Table and the Resolver (R43 to R57, R82, R84, R110, R137), and the steps: every one keeps them
right. -/

namespace Sys2Proof.Machine

/-! ### Resets and lines -/

theorem profilesOk_reset (pending : List Instr) : ProfilesOk { State.reset with pending := pending } :=
  (resetKeepsInv pending).profilesOk

theorem profilesOk_fullReset (s : State) : ProfilesOk (fullReset s) :=
  profilesOk_of_empty rfl rfl (by simp [fullReset, State.reset])

/-- A slot starts to settle with its generation as it was. -/
theorem samplePresence_gen (s : State) (n : SlotNo) : ((samplePresence s).slots.get n).gen = (s.slots.get n).gen := by
  rw [samplePresence_slots_get]
  split
  next => rfl
  next => rfl

theorem ProfilesOk.releaseReset {s : State} (h : ProfilesOk s) (rate : Bool) (pres : Eight Bool) :
    ProfilesOk (releaseReset rate pres s) :=
  h.congr ⟨⟨samplePresence_gen _, rfl⟩, rfl, rfl, rfl⟩

/-- A record put in place with its generation as it was. -/
theorem profileAlike_setSlot {s : State} {n : SlotNo} {r : Slot} (h : r.gen = (s.slots.get n).gen) :
    ProfileAlike s { s with slots := s.slots.set n r } := ⟨⟨gen_set h, rfl⟩, rfl, rfl, rfl⟩

theorem profileAlike_startSettling (n : SlotNo) (s : State) : ProfileAlike s (startSettling n s) := by
  unfold startSettling
  split
  next => exact profileAlike_setSlot rfl
  next => exact profileAlike_of_eq rfl rfl rfl rfl rfl

theorem ProfilesOk.removal {s : State} (h : ProfilesOk s) (n : SlotNo) : ProfilesOk (removal n s) := by
  have hevent : ProfilesOk (removalEvent n s) := h.slotEvent _ (removedSlot_gen s.slots n)
  rw [removal_frame]
  exact hevent.congr (profileAlike_of_eq rfl rfl rfl rfl rfl)

theorem ProfilesOk.presenceHigh {s : State} (h : ProfilesOk s) (n : SlotNo) : ProfilesOk (presenceHigh n s) := by
  cases hst : occupied (s.slots.get n).state with
  | true =>
    rw [presenceHigh_of_occupied hst]
    exact h.removal n
  | false =>
    rcases occupied_eq_false_iff.mp hst with hst | hst
    · rwa [presenceHigh_of_empty hst]
    · rw [presenceHigh_of_settling hst]
      exact h.congr (profileAlike_setSlot rfl)

theorem insertedSlot_gen (faulted : Bool) (r : Slot) : (insertedSlot faulted r).gen = r.gen := by
  cases faulted <;> rfl

theorem profileAlike_insertion (n : SlotNo) (s : State) : ProfileAlike s (insertion n s) := by
  have hinserted : ProfileAlike s { s with slots := s.slots.set n (insertedSlot (s.bus == .faulted) (s.slots.get n)) } :=
    profileAlike_setSlot (insertedSlot_gen _ _)
  unfold insertion
  refine ProfileAlike.trans ?_ (profileAlike_raise ..)
  split
  next => exact hinserted
  next => exact hinserted.trans (profileAlike_demandScan ..)

/-! ### Scans and user pages -/

theorem ProfilesOk.completeScan {s : State} (h : ProfilesOk s) (n : SlotNo) (img : List Byte) :
    ProfilesOk (completeScan n img s) := by
  rw [completeScan_eq]
  exact h.slotEvent _ fun m => scannedSlots_gen s.slots n m img

theorem ProfilesOk.failScans {s : State} (h : ProfilesOk s) (ns : List SlotNo) (c : UnreadableCause) :
    ProfilesOk (failScans ns c s) := h.slotEvent _ (failedSlots_gen ns c s.slots)

theorem ProfilesOk.enterFaulted {s : State} (h : ProfilesOk s) (announce : Bool) : ProfilesOk (enterFaulted announce s) := by
  have hended : ProfileAlike s (endTags .busFault [] (s.jobs.flatMap Job.tags)
      { s with bus := .faulted, inFlight := none, jobs := [] }) :=
    profileAlike_of_eq (by simp) (by simp) (by simp) (by simp) (by simp)
  have hfailed := (h.congr hended).failScans (presenceScanSlots s.jobs) .bus
  unfold Machine.enterFaulted
  dsimp only
  split
  next => exact hfailed.congr (profileAlike_raise ..)
  next => exact hfailed

theorem profileAlike_recoveryRescans (s : State) : ProfileAlike s (recoveryRescans s) := by
  have hreread (n : SlotNo) : ((rereadSlots s.slots).get n).gen = (s.slots.get n).gen := by
    cases hlost : lostToBus (s.slots.get n) with
    | true => rw [rereadSlots_get_of_lost hlost]
    | false => rw [rereadSlots_get_of_not_lost hlost]
  rw [recoveryRescans_eq, demandScans_frame]
  exact ⟨⟨hreread, rfl⟩, rfl, rfl, rfl⟩

theorem profileAlike_changeCopy (n : SlotNo) (change : ImageCopy → ImageCopy) (s : State) :
    ProfileAlike s (changeCopy n change s) := profileAlike_setSlot rfl

/-! ### The job in flight -/

/-- A job ends with its tags replied. -/
theorem profileAlike_ended (st : Status) (payload tags : List Byte) (s : State) :
    ProfileAlike s (finishJob (endTags st payload tags s)) := (profileAlike_endTags ..).trans (profileAlike_finishJob _)

theorem ProfilesOk.deliverFailure {s : State} (h : ProfilesOk s) (f : InFlight) (c : UnreadableCause) (st : Status) :
    ProfilesOk (deliverFailure f c st s) := by
  unfold Machine.deliverFailure
  split
  next => exact (h.failScans _ c).congr (profileAlike_endTags ..)
  next => exact h.congr (profileAlike_endTags ..)
  next =>
    refine ProfilesOk.congr ?_ (profileAlike_endTags ..)
    split
    next => exact h.congr (profileAlike_changeCopy ..)
    next => exact h
  next => exact h

theorem ProfilesOk.transactionEnd {s : State} (h : ProfilesOk s) (f : InFlight) : ProfilesOk (transactionEnd f s) := by
  unfold Machine.transactionEnd
  split_ifs
  · exact h.congr (profileAlike_endStopped ..)
  · exact h.congr (profileAlike_of_eq rfl rfl rfl rfl rfl)
  · exact (h.deliverFailure ..).congr (profileAlike_finishJob _)

theorem ProfilesOk.stuckFailure {s : State} (h : ProfilesOk s) (f : InFlight) : ProfilesOk (stuckFailure f s) := by
  unfold Machine.stuckFailure
  split
  next => exact h.congr (profileAlike_endTags ..)
  next => exact h.deliverFailure ..

theorem ProfilesOk.segmentEnd {s : State} (h : ProfilesOk s) (n : SlotNo) (f : InFlight) (bytes : List Byte) :
    ProfilesOk (segmentEnd n f bytes s) := by
  unfold Machine.segmentEnd
  dsimp only
  split_ifs
  · exact h.congr (profileAlike_endStopped ..)
  · exact (h.completeScan ..).congr (profileAlike_ended ..)
  · exact h.congr (profileAlike_of_eq rfl rfl rfl rfl rfl)

theorem profileAlike_pollEnd (f : InFlight) (n : SlotNo) (off : Nat) (acked : Bool) (s : State) :
    ProfileAlike s (pollEnd f n off acked s) := by
  unfold pollEnd
  split_ifs
  · exact profileAlike_of_eq rfl rfl rfl rfl rfl
  · exact profileAlike_of_eq rfl rfl rfl rfl rfl
  · exact (profileAlike_changeCopy ..).trans (profileAlike_ended ..)

theorem profileAlike_readBackEnd (f : InFlight) (n : SlotNo) (off : Nat) (data page : List Byte) (s : State) :
    ProfileAlike s (readBackEnd f n off data page s) := by
  unfold readBackEnd
  split
  next => exact (profileAlike_changeCopy ..).trans (profileAlike_ended ..)
  next => exact (profileAlike_changeCopy ..).trans (profileAlike_ended ..)

/-- R80 to R84: the end of a recovery. -/
theorem ProfilesOk.recoveryOutcome {s : State} (h : ProfilesOk s) (free : Bool) : ProfilesOk (recoveryOutcome free s) := by
  unfold Machine.recoveryOutcome
  split
  next f _ =>
    have hended := h.congr (profileAlike_endTags .busFault [] f.job.tags s)
    unfold recoverEnd
    split
    · exact h.congr (profileAlike_ended ..)
    · exact hended.enterFaulted _
    · have hrecovered : ProfileAlike s
          (raise .busRecovered (endTags .ok [] f.job.tags { s with inFlight := none, bus := .idle })) :=
        profileAlike_of_eq (by simp) (by simp) (by simp) (by simp) (by simp)
      exact h.congr ((hrecovered.trans (profileAlike_recoveryRescans _)).trans (profileAlike_startNext _))
    · exact hended.enterFaulted _
  next =>
    split
    next =>
      have hidle : ProfileAlike s { s with bus := .idle } := profileAlike_of_eq rfl rfl rfl rfl rfl
      exact h.congr (hidle.trans (profileAlike_startNext _))
    next => exact h.enterFaulted _

/-! ### The completion of a resolution (R110, R137) -/

/-- RESOLUTION_COMPLETE has no effect, or completes a BUILDING entry with the outcome of the work. -/
theorem exec_resolutionComplete_of_building {s t : State} (ht : exec .resolutionComplete s = .next t) :
    t = s ∨ ∃ w e tag sn, s.work = some w ∧ e ∈ s.entries ∧ e.state = .building tag sn ∧ t = resolutionEnd w e tag sn s := by
  rw [exec, execResolutionComplete] at ht
  split at ht
  next w e hw hfind =>
    split at ht
    next tag sn hst =>
      exact .inr ⟨w, e, tag, sn, hw, List.mem_of_find?_eq_some hfind, hst, (Host.Outcome.next.inj ht).symm⟩
    all_goals exact .inl (Host.Outcome.next.inj ht).symm
  all_goals exact .inl (Host.Outcome.next.inj ht).symm

theorem not_building_judge (s : State) (sn : Snapshot) (o : Outcome) (e : Entry) :
    isBuilding { e with state := judge s sn o } = false := by
  cases o with
  | failure f => rfl
  | result p =>
    rw [judge]
    split
    next => rfl
    next => rfl

/-- A judged entry is an entry still, and VALID only with the current generations. -/
theorem EntryOk.judged {s t : State} {e : Entry} (h : EntryOk s e) {tag : Byte} {sn : Snapshot}
    (hst : e.state = .building tag sn) (hgens : SameGens s t) (o : Outcome) :
    EntryOk t { e with state := judge s sn o } := by
  have happlied := h.not_applied (by rw [holdsResult, hst])
  obtain ⟨hhandle, hslots, hascending, _, hsnapshot, _⟩ := h
  have hset : sn.gens.map Prod.fst = e.request.slots := hsnapshot sn (by rw [snapshotOf, hst])
  refine ⟨hhandle, hslots, hascending, (fun hnew => nomatch happlied.symm.trans hnew), fun sn' hsn => ?_,
    fun sn' hsn hvalid => ?_⟩
  · cases o with
    | failure f => exact Option.some.inj hsn ▸ hset
    | result p =>
      simp only [judge] at hsn
      split at hsn
      next => exact Option.some.inj hsn ▸ hset
      next => exact Option.some.inj hsn ▸ hset
  · cases o with
    | failure f => exact nomatch hvalid
    | result p =>
      simp only [judge] at hsn hvalid
      split at hsn
      next hcurrent =>
        rw [hgens.snapshotCurrent]
        exact Option.some.inj hsn ▸ hcurrent
      next hcurrent =>
        rw [if_neg hcurrent] at hvalid
        exact nomatch hvalid

theorem ProfilesOk.resolutionEnd {s : State} (h : ProfilesOk s) (w : Work) {e : Entry} (he : e ∈ s.entries) {tag : Byte}
    {sn : Snapshot} (hst : e.state = .building tag sn) : ProfilesOk (resolutionEnd w e tag sn s) := by
  obtain ⟨front, back, hs⟩ := List.append_of_mem he
  have hbuilding : isBuilding e = true := isBuilding_iff.mpr ⟨tag, sn, hst⟩
  have hone := h.ready.one_building he hbuilding
  rw [hs, List.countP_append, List.countP_cons_of_pos hbuilding] at hone
  have hnot := Bool.eq_false_iff.mp (not_building_judge s sn (resolveWork w) e)
  have hleft (st : Status) (payload : List Byte) :
      (endRequest st payload tag
        { setEntry e.handle { e with state := judge s sn (resolveWork w) } s with work := none }).entries =
          front ++ { e with state := judge s sn (resolveWork w) } :: back := by
    rw [endRequest_entries]
    exact congrArg State.entries (setEntry_eq hs h.table.nodup _)
  have hgens (st : Status) (payload : List Byte) : SameGens s (endRequest st payload tag
      { setEntry e.handle { e with state := judge s sn (resolveWork w) } s with work := none }) :=
    sameGens_of_eq (by simp) (by simp)
  have hjudged {t : State} (ht : SameGens s t) := (h.table.entryOk he).judged hst ht (resolveWork w)
  refine profilesOk_handOver
    (h.table.replace hs (hleft _ _) rfl .inl (hjudged (hgens _ _)) (hgens _ _) (by simp))
    ⟨fun _ => ?_, fun w' hw' => ?_⟩
  · rw [hleft, List.countP_append, List.countP_cons_of_neg hnot]
    omega
  · rw [endRequest_work] at hw'
    exact nomatch hw'

/-! ### Every command -/

/-- Every command keeps Table and Resolver right. -/
theorem ProfilesOk.exec_keeps {s t : State} (h : ProfilesOk s) {c : Instr} (ht : exec c s = .next t) : ProfilesOk t := by
  cases hframe : requestFrame c with
  | some frame => exact linkKeeps_profilesOk.exec_request hframe h ht
  | none =>
    cases c with
    | lineReset =>
      cases ht
      exact profilesOk_reset _
    | lineResetRelease rate pres =>
      rcases exec_lineResetRelease_cases ht with rfl | ⟨_, rfl⟩
      · exact h
      · exact h.releaseReset rate pres
    | presenceLow n =>
      rcases exec_presenceLow_cases ht with ⟨_, rfl⟩ | ⟨_, rfl⟩
      · exact h
      · have hlow : ProfileAlike s { s with pres := s.pres.set n false } := profileAlike_of_eq rfl rfl rfl rfl rfl
        exact h.congr (hlow.trans (profileAlike_startSettling ..))
    | presenceHigh n =>
      rcases exec_presenceHigh_cases ht with ⟨_, rfl⟩ | ⟨_, rfl⟩
      · exact h
      · have hhigh : ProfileAlike s { s with pres := s.pres.set n true } := profileAlike_of_eq rfl rfl rfl rfl rfl
        exact (h.congr hhigh).presenceHigh n
    | settleExpiry n =>
      rcases exec_settleExpiry_cases ht with rfl | ⟨_, rfl⟩
      · exact h
      · exact h.congr (profileAlike_insertion ..)
    | segmentDone bytes =>
      rcases exec_segmentDone_cases ht with rfl | ⟨f, n, _, _, _, rfl⟩
      · exact h
      · exact h.segmentEnd ..
    | transactionFailed acked =>
      rcases exec_transactionFailed_cases ht with rfl | ⟨f, _, _, rfl⟩
      · exact h
      · exact h.transactionEnd _
    | retryTimerExpiry =>
      rcases exec_retryTimerExpiry_cases ht with rfl | ⟨f, _, _, ⟨_, rfl⟩ | ⟨_, rfl⟩⟩
      · exact h
      · exact h.congr (profileAlike_endStopped ..)
      · exact h.congr (profileAlike_of_eq rfl rfl rfl rfl rfl)
    | stuckBus acked =>
      rcases exec_stuckBus_cases ht with rfl | ⟨f, _, _, rfl⟩
      · exact h
      · exact (h.stuckFailure _).congr (profileAlike_of_eq rfl rfl rfl rfl rfl)
    | recoveryEnd looks scl sda =>
      rcases exec_recoveryEnd_cases ht with rfl | ⟨_, rfl⟩
      · exact h
      · have hlooked : ProfileAlike s { s with pulses := pulsesSent looks } := profileAlike_of_eq rfl rfl rfl rfl rfl
        exact (h.congr hlooked).recoveryOutcome _
    | moduleReadDone bytes =>
      rcases exec_moduleReadDone_cases ht with rfl | ⟨f, _, _, _, _, _, rfl | rfl⟩
      · exact h
      · exact h.congr (profileAlike_endStopped ..)
      · exact h.congr (profileAlike_ended ..)
    | pageWriteDone =>
      rcases exec_pageWriteDone_cases ht with rfl | ⟨f, _, _, rfl⟩
      · exact h
      · exact h.congr (profileAlike_of_eq rfl rfl rfl rfl rfl)
    | pollTimerExpiry =>
      rcases exec_pollTimerExpiry_cases ht with rfl | ⟨f, _, _, rfl⟩
      · exact h
      · exact h.congr (profileAlike_of_eq rfl rfl rfl rfl rfl)
    | pollDone acked =>
      rcases exec_pollDone_cases ht with rfl | ⟨f, n, off, _, _, _, _, rfl⟩
      · exact h
      · exact h.congr (profileAlike_pollEnd ..)
    | readBackDone bytes =>
      rcases exec_readBackDone_cases ht with rfl | ⟨f, n, off, data, _, _, rfl⟩
      · exact h
      · exact h.congr (profileAlike_readBackEnd ..)
    | userWriteAbandonEnd =>
      rcases exec_userWriteAbandonEnd_cases ht with rfl | ⟨_, _, _, rfl⟩
      · exact h
      · exact h.congr (profileAlike_finishJob _)
    | resolutionComplete =>
      rcases exec_resolutionComplete_of_building ht with rfl | ⟨w, e, tag, sn, _, he, hst, rfl⟩
      · exact h
      · exact h.resolutionEnd w he hst
    | characterDropped =>
      cases ht
      exact h
    | byteReceived b => exact linkKeeps_profilesOk.exec_byteReceived h ht
    | gapExpiry => exact linkKeeps_profilesOk.exec_gapExpiry h ht
    | replySendStart =>
      rcases exec_replySendStart_cases ht with rfl | ⟨r, rest, rfl⟩
      · exact h
      · exact h.congr (profileAlike_of_eq rfl rfl rfl rfl rfl)
    | replySent =>
      rcases exec_replySent_cases ht with rfl | rfl | ⟨_, rfl⟩
      · exact h
      · exact h.congr (profileAlike_of_eq rfl rfl rfl rfl rfl)
      · exact profilesOk_fullReset _
    | _ => exact nomatch hframe

/-- Settles O60: entries come, age, change and go in agreement with the Resolver, command by command. -/
theorem stepKeepsProfileTable : Obligations.StepKeepsProfileTable := by
  intro s t h ht
  have hkept : ProfilesOk t := by
    rcases step_cases ht with rfl | ⟨c, rest, hexec⟩
    · exact h.profilesOk
    · exact (h.withPending rest).profilesOk.exec_keeps hexec
  exact ⟨hkept.table, hkept.resolver⟩

end Sys2Proof.Machine
end

section
/-! What the owner of a taken frame can do (R158, R168), said once: it replies at once, after a change of its own block or
none, or takes the request for later, or withdraws another, or resets. -/

namespace Sys2Proof.Machine

/-- The states a request's owner can leave. Only a kind that waits for a place in the inbox is taken for later (R157). -/
inductive OwnerDoes (tag kind : Byte) (s : State) : State → Prop where
  | nothing : OwnerDoes tag kind s s
  | replies (st : Status) (payload : List Byte) : OwnerDoes tag kind s (answer tag kind st payload s)
  | configures {c : Configuration} (hc : settleTimeOk c.settleMs = true) (payload : List Byte) :
      OwnerDoes tag kind s (answer tag kind .ok payload (updateAlert { s with config := c }))
  | targets {target : Target} (htarget : targetOk target = true) (payload : List Byte) :
      OwnerDoes tag kind s (answer tag kind .ok payload (replaceTarget target s))
  | ladders {ps : List Nat} (hps : ladderOk ps = true) :
      OwnerDoes tag kind s (answer tag kind .ok [] { s with ladder := ps })
  | overrides (n : SlotNo) (os : List Override) (payload : List Byte) :
      OwnerDoes tag kind s (answer tag kind .ok payload (changeOverrides n os s))
  | marks {e : Entry} (he : e ∈ s.entries) (applied : Bool) :
      OwnerDoes tag kind s (answer tag kind .ok [] (setEntry e.handle { e with applied := applied } s))
  | fetches (m : Nat) (payload : List Byte) :
      OwnerDoes tag kind s (answer tag kind .ok payload (updateAlert { s with notices := s.notices.drop m }))
  | queues (hwaits : kind ∉ passesFull) (w : JobWork) : OwnerDoes tag kind s (takeJob tag kind w s)
  | scans (hwaits : kind ∉ passesFull) (n : SlotNo) :
      OwnerDoes tag kind s (demandScan n false [tag] (joinInbox tag kind .busJob s))
  | recovers (hwaits : kind ∉ passesFull) (hbus : s.bus = .faulted) :
      OwnerDoes tag kind s
        (startJob { work := .recover, presence := false, tags := [tag] } true (joinInbox tag kind .busJob s))
  | resolves (hkind : kind = kindResolve) {p : List Byte} {r : ResolveRequest} (hr : resolveArg p = some r)
      (hroom : hasRoom s = true) : OwnerDoes tag kind s (takeResolve tag r s)
  | drops {e : Entry} (he : e ∈ s.entries) : OwnerDoes tag kind s (answer tag kind .ok [] (dropEntry e s))
  | unqueues {g : Byte} (hg : g ∈ waitingTags s) :
      OwnerDoes tag kind s (cancelledThenOk tag g { s with jobs := dropClaim g s.jobs })
  | unclaims {g : Byte} {f : InFlight} (hf : s.inFlight = some f) (hg : g ∈ f.job.tags) :
      OwnerDoes tag kind s (dropFlightClaim g f (cancelledThenOk tag g s))
  | resets : OwnerDoes tag kind s (resetBySession tag s)
  | closes : OwnerDoes tag kind s (resetByFull tag s)

/-! ### Settings and the Slot Table -/

section Owners
variable (tag : Byte) (payload : List Byte) (s : State)

theorem ownInfo_does : OwnerDoes tag kindInfo s (ownInfo tag payload s) := .replies ..

theorem settleTimeOk_of_configArg {p : List Byte} {c : Configuration} (h : configArg p = some c) :
    settleTimeOk c.settleMs = true := by
  unfold configArg at h
  split at h
  next =>
    split at h
    next =>
      split at h
      next hsettle => exact Option.some.inj h ▸ hsettle
      next => exact nomatch h
    next => exact nomatch h
  next => exact nomatch h

theorem ownConfigure_does : OwnerDoes tag kindConfigure s (ownConfigure tag payload s) := by
  unfold ownConfigure
  split
  next => exact .replies ..
  next hc => exact .configures (settleTimeOk_of_configArg hc) _

theorem targetOk_of_targetArg {p : List Byte} {target : Target} (h : targetArg p = some target) :
    targetOk target = true := by
  unfold targetArg at h
  split at h
  next =>
    split at h
    next =>
      dsimp only at h
      split at h
      next hok => exact Option.some.inj h ▸ hok
      next => exact nomatch h
    next => exact nomatch h
  next => exact nomatch h

theorem ownSetTarget_does : OwnerDoes tag kindSetTarget s (ownSetTarget tag payload s) := by
  unfold ownSetTarget
  split
  next => exact .replies ..
  next htarget =>
    split
    next => exact .replies ..
    next => exact .targets (targetOk_of_targetArg htarget) _

theorem ownGetTarget_does : OwnerDoes tag kindGetTarget s (ownGetTarget tag payload s) := .replies ..

theorem ladderOk_of_ladderArg {p : List Byte} {ps : List Nat} (h : ladderArg p = some ps) : ladderOk ps = true := by
  unfold ladderArg at h
  split at h
  next =>
    split at h
    next =>
      split at h
      next hok => exact Option.some.inj h ▸ hok
      next => exact nomatch h
    next => exact nomatch h
  next => exact nomatch h

theorem ownSetLadder_does : OwnerDoes tag kindSetLadder s (ownSetLadder tag payload s) := by
  unfold ownSetLadder
  split
  next => exact .replies ..
  next hps => exact .ladders (ladderOk_of_ladderArg hps)

theorem ownGetLadder_does : OwnerDoes tag kindGetLadder s (ownGetLadder tag payload s) := .replies ..

theorem ownListSlots_does : OwnerDoes tag kindListSlots s (ownListSlots tag payload s) := .replies ..

theorem ownGetSlot_does : OwnerDoes tag kindGetSlot s (ownGetSlot tag payload s) := by
  unfold ownGetSlot
  split
  next => exact .replies ..
  next =>
    split
    next => exact .replies ..
    next => exact .replies ..

theorem ownReadImage_does : OwnerDoes tag kindReadImage s (ownReadImage tag payload s) := by
  unfold ownReadImage
  split
  next => exact .replies ..
  next =>
    split
    next => exact .replies ..
    next => exact .replies ..

theorem ownSetOverride_does : OwnerDoes tag kindSetOverride s (ownSetOverride tag payload s) := by
  unfold ownSetOverride
  split
  next => exact .replies ..
  next n o _ =>
    split_ifs
    · exact .replies ..
    · exact .replies ..
    · exact .replies ..
    · unfold overrideReply acceptOverride
      split
      next => exact .replies ..
      next => exact .overrides n _ _

theorem ownClearOverrides_does : OwnerDoes tag kindClearOverrides s (ownClearOverrides tag payload s) := by
  unfold ownClearOverrides
  split
  next => exact .replies ..
  next n _ =>
    split_ifs
    · exact .replies ..
    · exact .replies ..
    · unfold overrideReply acceptClear
      split
      next => exact .replies ..
      next => exact .overrides n _ _

/-! ### Jobs -/

theorem ownReadModule_does : OwnerDoes tag kindReadModule s (ownReadModule tag payload s) := by
  unfold ownReadModule
  split
  next => exact .replies ..
  next =>
    split_ifs
    · exact .replies ..
    · exact .replies ..
    · exact .queues (by decide) _

theorem ownWriteUser_does : OwnerDoes tag kindWriteUser s (ownWriteUser tag payload s) := by
  unfold ownWriteUser
  split
  next => exact .replies ..
  next =>
    split_ifs
    · exact .replies ..
    · exact .replies ..
    · exact .replies ..
    · exact .replies ..
    · exact .queues (by decide) _

theorem ownRescan_does : OwnerDoes tag kindRescan s (ownRescan tag payload s) := by
  unfold ownRescan
  split
  next => exact .replies ..
  next =>
    split_ifs
    · exact .replies ..
    · exact .replies ..
    · exact .replies ..
    · exact .scans (by decide) _

theorem ownBusReset_does : OwnerDoes tag kindBusReset s (ownBusReset tag payload s) := by
  unfold ownBusReset
  split
  next hbus => exact .recovers (by decide) hbus
  next => exact .queues (by decide) _

/-! ### Profiles -/

theorem ownResolve_does : OwnerDoes tag kindResolve s (ownResolve tag payload s) := by
  unfold ownResolve
  split
  next => exact .replies ..
  next r hr =>
    split
    next hroom => exact .resolves rfl hr hroom
    next => exact .replies ..

/-- A request that names a handle is refused, or acts on the entry that holds it. -/
theorem withEntry_does (kind : Byte) {act : Entry → State → State}
    (hact : ∀ e ∈ s.entries, OwnerDoes tag kind s (act e s)) : OwnerDoes tag kind s (withEntry tag kind payload act s) := by
  unfold withEntry
  split
  next => exact .replies ..
  next =>
    split
    next => exact .replies ..
    next he => exact hact _ (entryAt_mem he)

theorem ownGetProfile_does : OwnerDoes tag kindGetProfile s (ownGetProfile tag payload s) :=
  withEntry_does _ _ _ _ fun _ _ => .replies ..

theorem ownListProfiles_does : OwnerDoes tag kindListProfiles s (ownListProfiles tag payload s) := .replies ..

theorem ownApply_does : OwnerDoes tag kindApply s (ownApply tag payload s) := by
  refine withEntry_does _ _ _ _ fun e he => ?_
  unfold applyEntry
  split_ifs
  · exact .replies ..
  · exact .replies ..
  · exact .replies ..
  · exact .marks he true

theorem ownUnapply_does : OwnerDoes tag kindUnapply s (ownUnapply tag payload s) := by
  refine withEntry_does _ _ _ _ fun e he => ?_
  unfold unapplyEntry
  split
  next => exact .marks he false
  next => exact .replies ..

theorem ownDrop_does : OwnerDoes tag kindDrop s (ownDrop tag payload s) := by
  refine withEntry_does _ _ _ _ fun e he => ?_
  unfold dropNamed
  split
  next => exact .replies ..
  next => exact .drops he

/-! ### FETCH NOTICES, CANCEL, RESET -/

theorem ownFetchNotices_does : OwnerDoes tag kindFetchNotices s (ownFetchNotices tag payload s) := by
  unfold ownFetchNotices
  split
  next => exact .replies ..
  next => exact .fetches ..

theorem cancelJob_does (g : Byte) : OwnerDoes tag kindCancel s (cancelJob tag g s) := by
  unfold cancelJob
  split
  next hwaits =>
    obtain ⟨j, hj, hg⟩ := List.any_eq_true.mp hwaits
    exact .unqueues (List.mem_flatMap.mpr ⟨j, hj, List.contains_iff_mem.mp hg⟩)
  next =>
    split
    next f hf =>
      split
      next hg =>
        cases hreading : isReading f.job with
        | true =>
          rw [cancelInFlight_reading hreading]
          exact .unclaims hf (List.contains_iff_mem.mp hg)
        | false =>
          rw [cancelInFlight_not_reading hreading]
          exact .replies ..
      next => exact .replies ..
    next => exact .replies ..

theorem ownCancel_does : OwnerDoes tag kindCancel s (ownCancel tag payload s) := by
  unfold ownCancel
  split
  next => exact .replies ..
  next =>
    split
    next => exact .replies ..
    next =>
      split
      next => exact cancelJob_does tag s _
      next =>
        unfold cancelResolve
        split
        next he => exact .drops (List.mem_of_find?_eq_some he)
        next => exact .replies ..

theorem ownReset_does : OwnerDoes tag kindReset s (ownReset tag payload s) := by
  unfold ownReset
  split
  next => exact .replies ..
  next => exact .resets
  next => exact .closes

/-- Every owner does one of these things. -/
theorem ownerOf_does (kind : Byte) : OwnerDoes tag kind s (ownerOf tag kind payload s) := by
  unfold ownerOf
  refine iteInduction (fun hk => hk ▸ ownInfo_does ..) fun _ => ?_
  refine iteInduction (fun hk => hk ▸ ownConfigure_does ..) fun _ => ?_
  refine iteInduction (fun hk => hk ▸ ownSetTarget_does ..) fun _ => ?_
  refine iteInduction (fun hk => hk ▸ ownGetTarget_does ..) fun _ => ?_
  refine iteInduction (fun hk => hk ▸ ownSetLadder_does ..) fun _ => ?_
  refine iteInduction (fun hk => hk ▸ ownGetLadder_does ..) fun _ => ?_
  refine iteInduction (fun hk => hk ▸ ownListSlots_does ..) fun _ => ?_
  refine iteInduction (fun hk => hk ▸ ownGetSlot_does ..) fun _ => ?_
  refine iteInduction (fun hk => hk ▸ ownReadImage_does ..) fun _ => ?_
  refine iteInduction (fun hk => hk ▸ ownReadModule_does ..) fun _ => ?_
  refine iteInduction (fun hk => hk ▸ ownWriteUser_does ..) fun _ => ?_
  refine iteInduction (fun hk => hk ▸ ownRescan_does ..) fun _ => ?_
  refine iteInduction (fun hk => hk ▸ ownSetOverride_does ..) fun _ => ?_
  refine iteInduction (fun hk => hk ▸ ownClearOverrides_does ..) fun _ => ?_
  refine iteInduction (fun hk => hk ▸ ownResolve_does ..) fun _ => ?_
  refine iteInduction (fun hk => hk ▸ ownGetProfile_does ..) fun _ => ?_
  refine iteInduction (fun hk => hk ▸ ownListProfiles_does ..) fun _ => ?_
  refine iteInduction (fun hk => hk ▸ ownApply_does ..) fun _ => ?_
  refine iteInduction (fun hk => hk ▸ ownUnapply_does ..) fun _ => ?_
  refine iteInduction (fun hk => hk ▸ ownDrop_does ..) fun _ => ?_
  refine iteInduction (fun hk => hk ▸ ownFetchNotices_does ..) fun _ => ?_
  refine iteInduction (fun hk => hk ▸ ownCancel_does ..) fun _ => ?_
  refine iteInduction (fun hk => hk ▸ ownBusReset_does ..) fun _ => ?_
  exact iteInduction (fun hk => hk ▸ ownReset_does ..) fun _ => .nothing

end Owners

end Sys2Proof.Machine
end

section
/-! What a good frame and a received byte can do (R152 to R158), with the places for replies and the receiver's phase: what
keeps a property that looks at these. -/

namespace Sys2Proof.Machine

/-- The places taken for replies: placed ones and those the outstanding requests will need (R156). -/
def places (s : State) : Nat := s.tx.length + s.inbox.length

/-- A frame has no effect, or is discarded OVERRUN, or is refused where a place is free, or its owner acts. -/
theorem takeFrame_cases (tag kind : Byte) (payload : List Byte) (s : State) :
    takeFrame tag kind payload s = s ∨ takeFrame tag kind payload s = raise (.linkFrameDropped .overrun) s ∨
      (places s < 8 ∧ ∃ st, takeFrame tag kind payload s = refuse tag kind st s) ∨
      Taken s tag kind ∧ takeFrame tag kind payload s = ownerOf tag kind payload s := by
  unfold takeFrame
  cases hopen : linkOpen s with
  | false => exact .inl (acceptFrame_closed _ _ _ hopen)
  | true =>
    by_cases hfree : freePlaces s = 0
    · exact .inr (.inl (acceptFrame_overrun _ _ _ hopen hfree))
    · have hplaces : places s < 8 := by
        simp only [freePlaces, Config.replyPlaces] at hfree
        simp only [places]
        omega
      rcases acceptFrame_cases tag kind (ownerOf tag kind payload) s with h | h | ⟨st, h⟩ | ⟨htaken, h⟩
      · exact .inl h
      · exact .inr (.inl h)
      · exact .inr (.inr (.inl ⟨hplaces, st, h⟩))
      · exact .inr (.inr (.inr ⟨htaken, h⟩))

/-- `LinkKeeps` for a property that looks at receiver or places: kept by the receiver as it goes from one situation of R152
to another, by a discarded frame, by a frame refused where a place is free, and by the owner of a frame that is taken. -/
structure FramesKeep (Q : State → Prop) : Prop where
  receiver : ∀ (r : Receiver) (s : State), (RxInv s.rx → RxInv r) → Q s → Q { s with rx := r }
  dropped : ∀ (c : DropCause) (s : State), Q s → Q (raise (.linkFrameDropped c) s)
  refused : ∀ (tag kind : Byte) (st : Status) (s : State), places s < 8 → Q s → Q (refuse tag kind st s)
  owned : ∀ (tag kind : Byte) (payload : List Byte) (s : State), Taken s tag kind → Q s → Q (ownerOf tag kind payload s)

theorem rxInv_body_iff {r : Receiver} (h : r.phase = .body) :
    RxInv r ↔ ∃ len rest, r.buffer = len :: rest ∧ r.gapRunning = true ∧ lengthOk len = true ∧ 1 ≤ r.expected ∧
      rest.length + r.expected = len.toNat := by
  unfold RxInv
  rw [h]
  cases r.buffer <;> simp

theorem rxInv_check_iff {r : Receiver} (h : r.phase = .check) :
    RxInv r ↔ ∃ len rest, r.buffer = len :: rest ∧ r.gapRunning = true ∧ lengthOk len = true ∧ 1 ≤ r.expected ∧
      r.expected ≤ 2 ∧ rest.length + r.expected = len.toNat + 2 := by
  unfold RxInv
  rw [h]
  cases r.buffer <;> simp

/-- A byte placed in BODY leaves the receiver in BODY or at the CHECK bytes. -/
theorem RxInv.rxBody {r : Receiver} (h : RxInv r) (hphase : r.phase = .body) (b : Byte) : RxInv (rxBody r b) := by
  obtain ⟨len, rest, hbuffer, _, hlen, hexpected, hcount⟩ := (rxInv_body_iff hphase).mp h
  have hlength : (rest ++ [b]).length = rest.length + 1 := by simp
  unfold Machine.rxBody
  rw [hbuffer]
  split
  next => exact (rxInv_check_iff rfl).mpr ⟨len, rest ++ [b], rfl, rfl, hlen, by simp, by simp, by dsimp only; omega⟩
  next => exact (rxInv_body_iff rfl).mpr ⟨len, rest ++ [b], rfl, rfl, hlen, by dsimp only; omega, by dsimp only; omega⟩

/-- The low CHECK byte placed leaves the receiver at the high one. -/
theorem RxInv.rxCheck {r : Receiver} (h : RxInv r) (hphase : r.phase = .check) (hmore : ¬ r.expected ≤ 1) (b : Byte) :
    RxInv (rxCheck r b) := by
  obtain ⟨len, rest, hbuffer, _, hlen, _, htwo, hcount⟩ := (rxInv_check_iff hphase).mp h
  have hlength : (rest ++ [b]).length = rest.length + 1 := by simp
  unfold Machine.rxCheck
  rw [hbuffer]
  exact (rxInv_check_iff rfl).mpr ⟨len, rest ++ [b], rfl, rfl, hlen, by simp, by simp, by dsimp only; omega⟩

theorem rxInv_rxLength {len : Byte} (h : lengthOk len = true) : RxInv (rxLength len) := by
  have hmin : 2 ≤ len.toNat := by
    simp only [lengthOk, Bool.and_eq_true, decide_eq_true_eq] at h
    exact h.1
  exact ⟨rfl, h, by simp only [rxLength]; omega, by simp [rxLength]⟩

section Keeps
variable {Q : State → Prop} (hQ : FramesKeep Q)
include hQ

theorem FramesKeep.takeFrame (tag kind : Byte) (payload : List Byte) {s : State} (h : Q s) :
    Q (takeFrame tag kind payload s) := by
  rcases takeFrame_cases tag kind payload s with he | he | ⟨hfree, st, he⟩ | ⟨htaken, he⟩
  · rwa [he]
  · rw [he]
    exact hQ.dropped _ _ h
  · rw [he]
    exact hQ.refused _ _ _ _ hfree h
  · rw [he]
    exact hQ.owned _ _ _ _ htaken h

theorem FramesKeep.discardFrame (c : DropCause) {s : State} (h : Q s) : Q (discardFrame c s) :=
  hQ.dropped _ _ (hQ.receiver _ _ (fun _ => rfl) h)

theorem FramesKeep.judgeFrame (bytes : List Byte) {s : State} (h : Q s) : Q (judgeFrame bytes s).1 := by
  have hidle : Q { s with rx := receiverIdle } := hQ.receiver _ _ (fun _ => rfl) h
  unfold Machine.judgeFrame
  split
  next =>
    dsimp only
    unfold handGood
    split
    next => exact hQ.takeFrame _ _ _ hidle
    next => exact hidle
  next => exact hQ.discardFrame _ h

theorem FramesKeep.takeByte (b : Byte) {s : State} (h : Q s) : Q (takeByte b s).1 := by
  unfold Machine.takeByte
  split
  next =>
    dsimp only
    split
    next => exact hQ.receiver _ _ (fun _ => rfl) h
    next => exact h
  next =>
    split
    next hlen => exact hQ.receiver _ _ (fun _ => rxInv_rxLength hlen) h
    next => exact hQ.discardFrame _ h
  next hphase => exact hQ.receiver _ _ (fun hrx => hrx.rxBody hphase b) h
  next hphase =>
    split
    next => exact hQ.judgeFrame _ h
    next hmore => exact hQ.receiver _ _ (fun hrx => hrx.rxCheck hphase hmore b) h

theorem FramesKeep.takeBytes (k : Nat) (bs : List Byte) {s : State} (h : Q s) : Q (takeBytes k bs s) := by
  induction k generalizing bs s with
  | zero => exact h
  | succ k ih =>
    cases bs with
    | nil => exact h
    | cons b bs =>
      rw [Machine.takeBytes]
      split
      next => exact ih _ (hQ.takeByte b h)
      next => exact h

/-- Such a property is kept by every request row. -/
theorem FramesKeep.exec_request {c : Instr} {tag kind : Byte} {payload : List Byte} {s t : State}
    (hc : requestFrame c = some (tag, kind, payload)) (h : Q s) (ht : exec c s = .next t) : Q t := by
  rw [Machine.exec_request hc, Host.Outcome.next.injEq] at ht
  exact ht ▸ hQ.takeFrame _ _ _ h

theorem FramesKeep.exec_byteReceived {b : Byte} {s t : State} (h : Q s) (ht : exec (.byteReceived b) s = .next t) : Q t := by
  cases ht
  exact hQ.takeBytes _ _ h

theorem FramesKeep.exec_gapExpiry {s t : State} (h : Q s) (ht : exec .gapExpiry s = .next t) : Q t := by
  cases ht
  split
  next => exact hQ.discardFrame _ h
  next => exact h

end Keeps

/-! ### The receiver and the settings after an owner has acted -/

/-- The settings are as they were. -/
structure SameSettings (s t : State) : Prop where
  config : t.config = s.config
  target : t.target = s.target
  ladder : t.ladder = s.ladder

theorem SettingsInv.congr {s t : State} (h : SettingsInv s) (hst : SameSettings s t) : SettingsInv t := by
  unfold SettingsInv
  rw [hst.config, hst.target, hst.ladder]
  exact h

/-- No owner touches the receiver, but for the RESET that begins CLOSING. -/
theorem OwnerDoes.rx {tag kind : Byte} {s t : State} (h : OwnerDoes tag kind s t) : t.rx = s.rx ∨ t.rx = receiverIdle := by
  cases h with
  | closes => exact .inr rfl
  | targets => exact .inl (by simp [replaceTarget])
  | overrides => exact .inl (by simp [changeOverrides])
  | queues => exact .inl (by simp [takeJob])
  | resolves => exact .inl (by simp [takeResolve])
  | unqueues => exact .inl (by simp [cancelledThenOk])
  | unclaims =>
    refine .inl ?_
    unfold dropFlightClaim
    dsimp only
    split <;> simp [cancelledThenOk]
  | resets => exact .inl (by simp [resetBySession, sessionReset])
  | _ => exact .inl (by simp)

/-- The three settings requests put values in range, and no other owner touches the settings. -/
theorem OwnerDoes.settings {tag kind : Byte} {s t : State} (h : OwnerDoes tag kind s t) (hs : SettingsInv s) :
    SettingsInv t := by
  obtain ⟨htarget, hladder, hsettle⟩ := id hs
  cases h with
  | configures hc => exact ⟨htarget, hladder, hc⟩
  | targets hok =>
    exact ⟨by simpa [replaceTarget] using hok, by simpa [replaceTarget] using hladder,
      by simpa [replaceTarget] using hsettle⟩
  | ladders hok => exact ⟨htarget, hok, hsettle⟩
  | overrides => exact hs.congr ⟨by simp [changeOverrides], by simp [changeOverrides], by simp [changeOverrides]⟩
  | queues => exact hs.congr ⟨by simp [takeJob], by simp [takeJob], by simp [takeJob]⟩
  | resolves => exact hs.congr ⟨by simp [takeResolve], by simp [takeResolve], by simp [takeResolve]⟩
  | unqueues => exact hs.congr ⟨by simp [cancelledThenOk], by simp [cancelledThenOk], by simp [cancelledThenOk]⟩
  | unclaims =>
    unfold dropFlightClaim
    dsimp only
    split <;> exact hs.congr ⟨by simp [cancelledThenOk], by simp [cancelledThenOk], by simp [cancelledThenOk]⟩
  | resets =>
    exact hs.congr ⟨by simp [resetBySession, sessionReset], by simp [resetBySession, sessionReset],
      by simp [resetBySession, sessionReset]⟩
  | closes => exact hs.congr ⟨by simp [resetByFull], by simp [resetByFull], by simp [resetByFull]⟩
  | _ => exact hs.congr ⟨by simp, by simp, by simp⟩

/-- The receiver is in one of its situations, and the settings are in their ranges. -/
structure SetupOk (s : State) : Prop where
  rx : RxInv s.rx
  settings : SettingsInv s

theorem framesKeep_setupOk : FramesKeep SetupOk where
  receiver _ _ hr h := ⟨hr h.rx, h.settings⟩
  dropped _ _ h := ⟨by simpa using h.rx, h.settings.congr ⟨by simp, by simp, by simp⟩⟩
  refused _ _ _ _ _ h := ⟨h.rx, h.settings⟩
  owned tag kind payload s _ h :=
    have hdoes := ownerOf_does tag payload s kind
    ⟨hdoes.rx.elim (fun he => he ▸ h.rx) fun he => he ▸ rfl, hdoes.settings h.settings⟩

end Sys2Proof.Machine
end

section
/-! Receiver, settings and CLOSING along the events of lines and bus, which touch none of them, and the steps: every one
keeps receiver, settings and the line reset (R93, R99, R102, R152, R153, R166). -/

namespace Sys2Proof.Machine

/-- Receiver, settings and CLOSING are as they were. -/
structure SameSetup (s t : State) : Prop extends SameSettings s t where
  rx : t.rx = s.rx
  closing : t.closing = s.closing

theorem SameSetup.trans {s t u : State} (h : SameSetup s t) (h' : SameSetup t u) : SameSetup s u :=
  ⟨⟨h'.config.trans h.config, h'.target.trans h.target, h'.ladder.trans h.ladder⟩, h'.rx.trans h.rx,
    h'.closing.trans h.closing⟩

theorem sameSetup_of_eq {s t : State} (hconfig : t.config = s.config) (htarget : t.target = s.target)
    (hladder : t.ladder = s.ladder) (hrx : t.rx = s.rx) (hclosing : t.closing = s.closing) : SameSetup s t :=
  ⟨⟨hconfig, htarget, hladder⟩, hrx, hclosing⟩

theorem SetupOk.congr {s t : State} (h : SetupOk s) (hst : SameSetup s t) : SetupOk t :=
  ⟨hst.rx ▸ h.rx, h.settings.congr hst.toSameSettings⟩

/-! ### The shared operations -/

theorem sameSetup_endTags (st : Status) (payload tags : List Byte) (s : State) : SameSetup s (endTags st payload tags s) :=
  sameSetup_of_eq (by simp) (by simp) (by simp) (by simp) (by simp)

theorem sameSetup_startNext (s : State) : SameSetup s (startNext s) :=
  sameSetup_of_eq (by simp) (by simp) (by simp) (by simp) (by simp)

theorem sameSetup_finishJob (s : State) : SameSetup s (finishJob s) :=
  sameSetup_of_eq (by simp) (by simp) (by simp) (by simp) (by simp)

theorem sameSetup_endStopped (f : InFlight) (s : State) : SameSetup s (endStopped f s) :=
  sameSetup_of_eq (by simp) (by simp) (by simp) (by simp) (by simp)

theorem sameSetup_ended (st : Status) (payload tags : List Byte) (s : State) :
    SameSetup s (finishJob (endTags st payload tags s)) := (sameSetup_endTags ..).trans (sameSetup_finishJob _)

theorem sameSetup_failScans (ns : List SlotNo) (c : UnreadableCause) (s : State) : SameSetup s (failScans ns c s) :=
  sameSetup_of_eq (by simp) (by simp) (by simp) (by simp) (by simp)

theorem sameSetup_changeCopy (n : SlotNo) (change : ImageCopy → ImageCopy) (s : State) :
    SameSetup s (changeCopy n change s) := sameSetup_of_eq rfl rfl rfl rfl rfl

theorem sameSetup_enterFaulted (announce : Bool) (s : State) : SameSetup s (enterFaulted announce s) :=
  sameSetup_of_eq (by simp) (by simp) (by simp) (by simp) (by simp)

/-! ### The events -/

theorem sameSetup_removal (n : SlotNo) (s : State) : SameSetup s (removal n s) := by
  have hevent : SameSetup s (removalEvent n s) :=
    sameSetup_of_eq (by simp [removalEvent]) (by simp [removalEvent]) (by simp [removalEvent]) (by simp [removalEvent])
      (by simp [removalEvent])
  rw [removal_frame]
  exact hevent.trans (sameSetup_of_eq rfl rfl rfl rfl rfl)

theorem sameSetup_presenceHigh (n : SlotNo) (s : State) : SameSetup s (presenceHigh n s) := by
  unfold presenceHigh
  split
  · exact sameSetup_of_eq rfl rfl rfl rfl rfl
  · exact sameSetup_of_eq rfl rfl rfl rfl rfl
  all_goals exact sameSetup_removal n s

theorem sameSetup_insertion (n : SlotNo) (s : State) : SameSetup s (insertion n s) := by
  unfold insertion
  dsimp only
  split <;> exact sameSetup_of_eq (by simp) (by simp) (by simp) (by simp) (by simp)

theorem sameSetup_segmentEnd (n : SlotNo) (f : InFlight) (bytes : List Byte) (s : State) :
    SameSetup s (segmentEnd n f bytes s) := by
  unfold segmentEnd
  dsimp only
  split_ifs
  · exact sameSetup_endStopped f s
  · have hscanned : SameSetup s (completeScan n ((f.bytesRead ++ bytes).take 256) s) :=
      sameSetup_of_eq (by simp) (by simp) (by simp) (by simp) (by simp)
    exact hscanned.trans (sameSetup_ended ..)
  · exact sameSetup_of_eq rfl rfl rfl rfl rfl

theorem sameSetup_deliverFailure (f : InFlight) (c : UnreadableCause) (st : Status) (s : State) :
    SameSetup s (deliverFailure f c st s) := by
  unfold deliverFailure
  split
  · exact (sameSetup_failScans ..).trans (sameSetup_endTags ..)
  · exact sameSetup_endTags ..
  · split
    · exact (sameSetup_changeCopy ..).trans (sameSetup_endTags ..)
    · exact sameSetup_endTags ..
  · exact sameSetup_of_eq rfl rfl rfl rfl rfl

theorem sameSetup_transactionEnd (f : InFlight) (s : State) : SameSetup s (transactionEnd f s) := by
  unfold transactionEnd
  split_ifs
  · exact sameSetup_endStopped f s
  · exact sameSetup_of_eq rfl rfl rfl rfl rfl
  · exact (sameSetup_deliverFailure ..).trans (sameSetup_finishJob _)

theorem sameSetup_stuckFailure (f : InFlight) (s : State) : SameSetup s (stuckFailure f s) := by
  unfold stuckFailure
  split
  · exact sameSetup_endTags ..
  · exact sameSetup_deliverFailure ..

theorem sameSetup_recoveryRescans (s : State) : SameSetup s (recoveryRescans s) := by
  rw [recoveryRescans_eq, demandScans_frame]
  exact sameSetup_of_eq rfl rfl rfl rfl rfl

theorem sameSetup_recoveryOutcome (free : Bool) (s : State) : SameSetup s (recoveryOutcome free s) := by
  unfold recoveryOutcome
  split
  next f _ =>
    unfold recoverEnd
    split
    · exact sameSetup_ended ..
    · exact (sameSetup_endTags ..).trans (sameSetup_enterFaulted ..)
    · have hraised : SameSetup s
          (raise .busRecovered (endTags .ok [] f.job.tags { s with inFlight := none, bus := .idle })) :=
        sameSetup_of_eq (by simp) (by simp) (by simp) (by simp) (by simp)
      exact (hraised.trans (sameSetup_recoveryRescans _)).trans (sameSetup_startNext _)
    · exact (sameSetup_endTags ..).trans (sameSetup_enterFaulted ..)
  next =>
    split
    · exact sameSetup_of_eq (by simp) (by simp) (by simp) (by simp) (by simp)
    · exact sameSetup_enterFaulted ..

theorem sameSetup_pollEnd (f : InFlight) (n : SlotNo) (off : Nat) (acked : Bool) (s : State) :
    SameSetup s (pollEnd f n off acked s) := by
  unfold pollEnd
  split_ifs
  · exact sameSetup_of_eq rfl rfl rfl rfl rfl
  · exact sameSetup_of_eq rfl rfl rfl rfl rfl
  · exact (sameSetup_changeCopy ..).trans (sameSetup_ended ..)

theorem sameSetup_readBackEnd (f : InFlight) (n : SlotNo) (off : Nat) (data page : List Byte) (s : State) :
    SameSetup s (readBackEnd f n off data page s) := by
  unfold readBackEnd
  split <;> exact (sameSetup_changeCopy ..).trans (sameSetup_ended ..)

theorem sameSetup_resolutionEnd (w : Work) (e : Entry) (tag : Byte) (sn : Snapshot) (s : State) :
    SameSetup s (resolutionEnd w e tag sn s) :=
  sameSetup_of_eq (by simp [resolutionEnd]) (by simp [resolutionEnd]) (by simp [resolutionEnd]) (by simp [resolutionEnd])
    (by simp [resolutionEnd])

/-! ### Every command -/

theorem setupOk_reset : SetupOk State.reset := ⟨rfl, settingsInv_reset⟩

/-- A command that is neither a frame, a byte or a gap, nor the end of a reset, leaves receiver, settings and CLOSING. -/
theorem exec_sameSetup {s t : State} {c : Instr} (hframe : requestFrame c = none) (hreset : c ≠ .lineReset)
    (hbyte : ∀ b, c ≠ .byteReceived b) (hgap : c ≠ .gapExpiry) (hsent : c ≠ .replySent) (ht : exec c s = .next t) :
    SameSetup s t := by
  have hsame : SameSetup s s := sameSetup_of_eq rfl rfl rfl rfl rfl
  cases c with
  | lineReset => exact absurd rfl hreset
  | byteReceived b => exact absurd rfl (hbyte b)
  | gapExpiry => exact absurd rfl hgap
  | replySent => exact absurd rfl hsent
  | lineResetRelease rate pres =>
    rcases exec_lineResetRelease_cases ht with rfl | ⟨_, rfl⟩
    · exact hsame
    · exact sameSetup_of_eq rfl rfl rfl rfl rfl
  | presenceLow n =>
    rcases exec_presenceLow_cases ht with ⟨_, rfl⟩ | ⟨_, rfl⟩
    · exact hsame
    · exact sameSetup_of_eq (by simp) (by simp) (by simp) (by simp) (by simp)
  | presenceHigh n =>
    rcases exec_presenceHigh_cases ht with ⟨_, rfl⟩ | ⟨_, rfl⟩
    · exact hsame
    · have hlevel : SameSetup s { s with pres := s.pres.set n true } := sameSetup_of_eq rfl rfl rfl rfl rfl
      exact hlevel.trans (sameSetup_presenceHigh n _)
  | settleExpiry n =>
    rcases exec_settleExpiry_cases ht with rfl | ⟨_, rfl⟩
    · exact hsame
    · exact sameSetup_insertion n s
  | segmentDone bytes =>
    rcases exec_segmentDone_cases ht with rfl | ⟨f, n, _, _, _, rfl⟩
    · exact hsame
    · exact sameSetup_segmentEnd n f bytes s
  | transactionFailed acked =>
    rcases exec_transactionFailed_cases ht with rfl | ⟨f, _, _, rfl⟩
    · exact hsame
    · exact sameSetup_transactionEnd _ s
  | retryTimerExpiry =>
    rcases exec_retryTimerExpiry_cases ht with rfl | ⟨f, _, _, ⟨_, rfl⟩ | ⟨_, rfl⟩⟩
    · exact hsame
    · exact sameSetup_endStopped f s
    · exact sameSetup_of_eq rfl rfl rfl rfl rfl
  | stuckBus acked =>
    rcases exec_stuckBus_cases ht with rfl | ⟨f, _, _, rfl⟩
    · exact hsame
    · exact (sameSetup_stuckFailure (noteAcked acked f) s).trans (sameSetup_of_eq rfl rfl rfl rfl rfl)
  | recoveryEnd looks scl sda =>
    rcases exec_recoveryEnd_cases ht with rfl | ⟨_, rfl⟩
    · exact hsame
    · have hlooked : SameSetup s { s with pulses := pulsesSent looks } := sameSetup_of_eq rfl rfl rfl rfl rfl
      exact hlooked.trans (sameSetup_recoveryOutcome _ _)
  | moduleReadDone bytes =>
    rcases exec_moduleReadDone_cases ht with rfl | ⟨f, n, off, len, _, _, rfl | rfl⟩
    · exact hsame
    · exact sameSetup_endStopped f s
    · exact sameSetup_ended ..
  | pageWriteDone =>
    rcases exec_pageWriteDone_cases ht with rfl | ⟨f, _, _, rfl⟩
    · exact hsame
    · exact sameSetup_of_eq rfl rfl rfl rfl rfl
  | pollTimerExpiry =>
    rcases exec_pollTimerExpiry_cases ht with rfl | ⟨f, _, _, rfl⟩
    · exact hsame
    · exact sameSetup_of_eq rfl rfl rfl rfl rfl
  | pollDone acked =>
    rcases exec_pollDone_cases ht with rfl | ⟨f, n, off, data, _, _, _, rfl⟩
    · exact hsame
    · exact sameSetup_pollEnd f n off acked s
  | readBackDone bytes =>
    rcases exec_readBackDone_cases ht with rfl | ⟨f, n, off, data, _, _, rfl⟩
    · exact hsame
    · exact sameSetup_readBackEnd f n off data bytes s
  | userWriteAbandonEnd =>
    rcases exec_userWriteAbandonEnd_cases ht with rfl | ⟨_, _, _, rfl⟩
    · exact hsame
    · exact sameSetup_finishJob s
  | resolutionComplete =>
    rcases exec_resolutionComplete_cases ht with rfl | ⟨w, e, tag, sn, rfl⟩
    · exact hsame
    · exact sameSetup_resolutionEnd w e tag sn s
  | characterDropped =>
    cases ht
    exact hsame
  | replySendStart =>
    rcases exec_replySendStart_cases ht with rfl | ⟨r, rest, rfl⟩
    · exact hsame
    · exact sameSetup_of_eq rfl rfl rfl rfl rfl
  | _ => exact nomatch hframe

theorem SetupOk.exec_keeps {s t : State} (h : SetupOk s) {c : Instr} (ht : exec c s = .next t) : SetupOk t := by
  cases hframe : requestFrame c with
  | some frame => exact framesKeep_setupOk.exec_request hframe h ht
  | none =>
    by_cases hreset : c = .lineReset
    · subst hreset
      cases ht
      exact setupOk_reset.congr (sameSetup_of_eq rfl rfl rfl rfl rfl)
    by_cases hgap : c = .gapExpiry
    · exact framesKeep_setupOk.exec_gapExpiry h (hgap ▸ ht)
    by_cases hbyte : ∃ b, c = .byteReceived b
    · obtain ⟨b, rfl⟩ := hbyte
      exact framesKeep_setupOk.exec_byteReceived h ht
    by_cases hsent : c = .replySent
    · subst hsent
      rcases exec_replySent_cases ht with rfl | rfl | ⟨_, rfl⟩
      · exact h
      · exact h.congr (sameSetup_of_eq rfl rfl rfl rfl rfl)
      · exact setupOk_reset.congr (sameSetup_of_eq rfl rfl rfl rfl rfl)
    exact h.congr (exec_sameSetup hframe hreset (fun b hb => hbyte ⟨b, hb⟩) hgap hsent ht)

/-- Once a command has been taken RESET_N is asserted only where the line reset's values stand (R166). -/
theorem Inv.resetInv_exec {s t : State} (h : Inv s) {c : Instr} (ht : exec c s = .next t) : ResetInv t := by
  by_cases hreset : c = .lineReset
  · subst hreset
    cases ht
    exact fun _ => rfl
  · cases hrun : s.resetAsserted with
    | false => exact fun hasserted => nomatch (h.busKept_exec hrun hreset ht).ok.run.symm.trans hasserted
    | true =>
      rw [h.eq_reset hrun] at ht
      by_cases hrelease : ∃ rate pres, c = .lineResetRelease rate pres
      · obtain ⟨rate, pres, rfl⟩ := hrelease
        cases ht
        exact fun hasserted => nomatch hasserted
      · rw [exec_in_reset _ fun rate pres hc => hrelease ⟨rate, pres, hc⟩] at ht
        cases ht
        exact fun _ => rfl

/-- Settles O55: receiver and settings command by command, and the line reset by the commands that enter and leave it. -/
theorem stepKeepsReceiverSettingsAndReset : Obligations.StepKeepsReceiverSettingsAndReset := by
  intro s t h ht
  rcases step_cases ht with rfl | ⟨c, rest, hexec⟩
  · exact ⟨h.rx, h.settings, h.reset⟩
  · have hpending := h.withPending rest
    have hsetup : SetupOk t := SetupOk.exec_keeps ⟨hpending.rx, hpending.settings⟩ hexec
    exact ⟨hsetup.rx, hsetup.settings, hpending.resetInv_exec hexec⟩

end Sys2Proof.Machine
end

section
/-! Places, outstanding requests and their claims together (R68, R156, R159): what keeps them right as claims end, move and
join. -/

namespace Sys2Proof.Machine

/-- The tags that claims of one form stand for: the host tags of bus jobs, the request tags of entries. -/
def heldTags (c : Claim) (s : State) : List Byte :=
  match c with
  | .busJob => busTags s
  | .profile => profileTags s

/-- Places and outstanding requests are right, and each request's claim is held. -/
structure LinkOk (s : State) : Prop where
  link : LinkInv s
  claims : ∀ c, (heldTags c s).Perm (claimTags c s)

theorem linkOk_iff {s : State} : LinkOk s ↔ LinkInv s ∧ ClaimInv s := by
  refine ⟨fun h => ⟨h.link, h.claims .busJob, h.claims .profile⟩, fun ⟨hlink, hbus, hprofile⟩ => ⟨hlink, fun c => ?_⟩⟩
  cases c with
  | busJob => exact hbus
  | profile => exact hprofile

theorem LinkOk.places_le {s : State} (h : LinkOk s) : places s ≤ 8 := by
  obtain ⟨_, hplaces, _⟩ := h.link
  exact hplaces

theorem LinkOk.distinctTags {s : State} (h : LinkOk s) : (s.inbox.map Outstanding.tag).Nodup := by
  obtain ⟨_, _, hdistinct, _⟩ := h.link
  exact hdistinct

theorem LinkOk.heldTags_nodup {s : State} (h : LinkOk s) (c : Claim) : (heldTags c s).Nodup :=
  (h.claims c).nodup_iff.mpr (h.distinctTags.sublist (List.filter_sublist.map Outstanding.tag))

/-- A tag is held with one form of claim. -/
theorem LinkOk.one_claim {s : State} (h : LinkOk s) {c d : Claim} {g : Byte} (hc : g ∈ claimTags c s)
    (hd : g ∈ claimTags d s) : c = d := by
  obtain ⟨o, ho, rfl, rfl⟩ := mem_claimTags.mp hc
  obtain ⟨x, hx, rfl, htag⟩ := mem_claimTags.mp hd
  rw [List.inj_on_of_nodup_map h.distinctTags hx ho htag]

/-! ### Requests that end -/

/-- A request that ends gives its place in the inbox for one in the transmit order. -/
theorem places_endRequest (st : Status) (payload : List Byte) (g : Byte) (s : State) :
    places (endRequest st payload g s) = places s := by
  unfold endRequest
  split
  next o ho =>
    have hmem := List.mem_of_find?_eq_some ho
    have hpos := List.length_pos_of_mem hmem
    simp only [places, place, List.length_append, List.length_singleton, List.length_erase_of_mem hmem]
    omega
  next => rfl

theorem places_endTags (st : Status) (payload tags : List Byte) (s : State) :
    places (endTags st payload tags s) = places s := by
  induction tags generalizing s with
  | nil => rfl
  | cons g gs ih => exact (ih _).trans (places_endRequest st payload g s)

/-- Some tags held with claims of form `c` are ended; no other claim is gone or new, and no more than `k` further places are
taken. -/
structure TagsEnd (c : Claim) (tags : List Byte) (k : Nat) (s t : State) : Prop where
  inbox : ∃ st payload, t.inbox = (endTags st payload tags s).inbox
  places : places t ≤ places s + k
  closing : t.closing = s.closing
  held : (heldTags c t ++ tags).Perm (heldTags c s)
  others : ∀ d, d ≠ c → (heldTags d t).Perm (heldTags d s)

theorem claimTags_filter {s t : State} {p : Byte → Bool} (h : t.inbox = s.inbox.filter fun o => p o.tag) (c : Claim) :
    claimTags c t = (claimTags c s).filter p := by
  rw [claimTags, claimTags, h, List.filter_map, List.filter_filter, List.filter_filter]
  refine congrArg (List.map Outstanding.tag) (List.filter_congr fun o _ => ?_)
  rw [Bool.and_comm]
  rfl

theorem filter_not_contains_self (tags : List Byte) : (tags.filter fun g => !tags.contains g) = [] := by simp

/-- Where tags of claims end, their requests are replied and the others stay outstanding. -/
theorem LinkOk.ends {s t : State} (h : LinkOk s) {c : Claim} {tags : List Byte} {k : Nat} (he : TagsEnd c tags k s t)
    (hk : Machine.places s + k ≤ 8) : LinkOk t := by
  obtain ⟨st, payload, hended⟩ := he.inbox
  have hnodup : (heldTags c t ++ tags).Nodup := he.held.nodup_iff.mpr (h.heldTags_nodup c)
  have hmem : ∀ g ∈ tags, g ∈ claimTags c s := fun g hg =>
    (h.claims c).subset (he.held.subset (List.mem_append_right _ hg))
  have hinbox : t.inbox = s.inbox.filter fun o => !tags.contains o.tag := by
    rw [hended, endTags_replied st payload tags s (List.nodup_append.mp hnodup).2.1 h.distinctTags fun g hg =>
      (List.filter_sublist.map Outstanding.tag).subset (hmem g hg)]
    rfl
  have hsub : t.inbox.Sublist s.inbox := hinbox ▸ List.filter_sublist
  obtain ⟨hroom, _, hdistinct, hzero, hclosed⟩ := h.link
  refine ⟨⟨hsub.length_le.trans hroom, he.places.trans hk, hdistinct.sublist (hsub.map _),
    fun o ho => hzero o (hsub.subset ho), fun hc => ?_⟩, fun d => ?_⟩
  · rw [he.closing] at hc
    exact List.eq_nil_of_sublist_nil (hclosed hc ▸ hsub)
  · rw [claimTags_filter (p := fun g => !tags.contains g) hinbox]
    by_cases hd : d = c
    · subst hd
      have hall := (he.held.trans (h.claims d)).filter fun g => !tags.contains g
      have hkept : ((heldTags d t).filter fun g => !tags.contains g) = heldTags d t :=
        List.filter_eq_self.mpr fun g hg => by
          simpa using List.disjoint_of_nodup_append hnodup hg
      rwa [List.filter_append, filter_not_contains_self, List.append_nil, hkept] at hall
    · have hkept : ((claimTags d s).filter fun g => !tags.contains g) = claimTags d s :=
        List.filter_eq_self.mpr fun g hg => by
          simpa using fun htag => hd (h.one_claim hg (hmem g htag))
      rw [hkept]
      exact (he.others d hd).trans (h.claims d)

/-! ### Requests that join -/

theorem ne_of_not_mem_passesFull {kind : Byte} (h : kind ∉ passesFull) : kind ≠ 0x30 ∧ kind ≠ 0x31 ∧ kind ≠ 0x33 := by
  refine ⟨?_, ?_, ?_⟩ <;> rintro rfl <;> exact h (by decide)

/-- A taken request joins with the claim it holds. -/
theorem LinkOk.joins {s t : State} (h : LinkOk s) {tag kind : Byte} (htaken : Taken s tag kind)
    (hwaits : kind ∉ passesFull) {c : Claim} (hinbox : t.inbox = s.inbox ++ [{ tag := tag, kind := kind, claim := c }])
    (htx : t.tx = s.tx) (hclosing : t.closing = s.closing)
    (hheld : (heldTags c t).Perm (heldTags c s ++ [tag])) (hothers : ∀ d, d ≠ c → (heldTags d t).Perm (heldTags d s)) :
    LinkOk t := by
  have hfour := htaken.room (ne_of_not_mem_passesFull hwaits)
  obtain ⟨_, hopen, hfree, htag, hfresh, _⟩ := htaken
  obtain ⟨_, _, hdistinct, hzero, _⟩ := h.link
  refine ⟨⟨?_, ?_, ?_, fun o ho => ?_, fun hc => ?_⟩, fun d => ?_⟩
  · rw [hinbox, List.length_append]
    exact hfour
  · rw [hinbox, htx, List.length_append, ← Nat.add_assoc]
    exact hfree
  · rw [hinbox, List.map_append]
    refine hdistinct.append (List.nodup_singleton tag) (List.disjoint_singleton.mpr fun hmem => ?_)
    obtain ⟨o, ho, hsame⟩ := List.mem_map.mp hmem
    exact hfresh o ho hsame
  · rw [hinbox] at ho
    rcases List.mem_append.mp ho with ho | ho
    · exact hzero o ho
    · rwa [List.mem_singleton.mp ho]
  · exact nomatch hopen.symm.trans (hclosing.symm.trans hc)
  · by_cases hd : d = c
    · subst hd
      have hnew : claimTags d t = claimTags d s ++ [tag] := by simp [claimTags, hinbox]
      rw [hnew]
      exact hheld.trans ((h.claims d).append_right [tag])
    · have hsame : claimTags d t = claimTags d s := by simp [claimTags, hinbox, Ne.symm hd]
      rw [hsame]
      exact (hothers d hd).trans (h.claims d)

/-- With nothing outstanding and no tag held. -/
theorem linkOk_of_empty {s : State} (hinbox : s.inbox = []) (hplaces : places s ≤ 8) (hbus : busTags s = [])
    (hprofile : profileTags s = []) : LinkOk s := by
  refine linkOk_iff.mpr ⟨⟨?_, hplaces, ?_, ?_, fun _ => hinbox⟩, ?_, ?_⟩
  · rw [hinbox]
    exact Nat.zero_le _
  · rw [hinbox]
    exact List.nodup_nil
  · rw [hinbox]
    exact fun _ ho => nomatch ho
  · rw [hbus, claimTags, hinbox]
    exact .nil
  · rw [hprofile, claimTags, hinbox]
    exact .nil

/-! ### Changes beside the claims -/

/-- Link, CLOSING, queue and job in flight are as they were, and the entries hold the same request tags. -/
structure SameClaims (s t : State) : Prop extends SameLink s t where
  closing : t.closing = s.closing
  jobs : t.jobs = s.jobs
  inFlight : t.inFlight = s.inFlight
  profile : profileTags t = profileTags s

theorem SameClaims.trans {s t u : State} (h : SameClaims s t) (h' : SameClaims t u) : SameClaims s u :=
  ⟨h.toSameLink.trans h'.toSameLink, h'.closing.trans h.closing, h'.jobs.trans h.jobs, h'.inFlight.trans h.inFlight,
    h'.profile.trans h.profile⟩

theorem sameClaims_of_eq {s t : State} (htx : t.tx = s.tx) (hinbox : t.inbox = s.inbox) (hclosing : t.closing = s.closing)
    (hjobs : t.jobs = s.jobs) (hflight : t.inFlight = s.inFlight) (hentries : t.entries = s.entries) : SameClaims s t :=
  ⟨⟨htx, hinbox⟩, hclosing, hjobs, hflight, by rw [profileTags, profileTags, hentries]⟩

theorem SameClaims.heldTags {s t : State} (h : SameClaims s t) (c : Claim) : heldTags c t = heldTags c s := by
  cases c with
  | busJob => exact busTags_congr h.jobs h.inFlight
  | profile => exact h.profile

theorem SameLink.places {s t : State} (h : SameLink s t) : places t = places s := by
  rw [Machine.places, Machine.places, h.tx, h.inbox]

theorem SameClaims.tagsEnd {s t : State} (h : SameClaims s t) : TagsEnd .busJob [] 0 s t :=
  ⟨⟨.ok, [], h.inbox⟩, h.places.le, h.closing, by rw [h.heldTags, List.append_nil], fun d _ => by rw [h.heldTags]⟩

theorem LinkOk.congr {s t : State} (h : LinkOk s) (hst : SameClaims s t) : LinkOk t := h.ends hst.tagsEnd h.places_le

/-- A change beside the claims goes before an end of claims. -/
theorem TagsEnd.after {s u t : State} {c : Claim} {tags : List Byte} {k : Nat} (h : TagsEnd c tags k u t)
    (hsu : SameClaims s u) : TagsEnd c tags k s t := by
  obtain ⟨st, payload, hinbox⟩ := h.inbox
  refine ⟨⟨st, payload, hinbox.trans (hsu.toSameLink.endTags st payload tags).inbox⟩, hsu.places ▸ h.places,
    h.closing.trans hsu.closing, ?_, fun d hd => ?_⟩
  · rw [← hsu.heldTags]
    exact h.held
  · rw [← hsu.heldTags]
    exact h.others d hd

/-- A change beside the claims follows an end of claims. -/
theorem TagsEnd.before {s u t : State} {c : Claim} {tags : List Byte} {k : Nat} (h : TagsEnd c tags k s u)
    (hut : SameClaims u t) : TagsEnd c tags k s t := by
  obtain ⟨st, payload, hinbox⟩ := h.inbox
  refine ⟨⟨st, payload, hut.inbox.trans hinbox⟩, hut.places ▸ h.places, hut.closing.trans h.closing, ?_, fun d hd => ?_⟩
  · rw [hut.heldTags]
    exact h.held
  · rw [hut.heldTags]
    exact h.others d hd

/-- One more reply takes one more place. -/
theorem TagsEnd.answered {s t : State} {c : Claim} {tags : List Byte} (h : TagsEnd c tags 0 s t) (tag kind : Byte)
    (st : Status) (payload : List Byte) : TagsEnd c tags 1 s (answer tag kind st payload t) := by
  have hheld (d : Claim) : heldTags d (answer tag kind st payload t) = heldTags d t := by cases d <;> rfl
  have hplaces : Machine.places (answer tag kind st payload t) = Machine.places t + 1 := by
    simp only [Machine.places, answer, place, List.length_append, List.length_singleton]
    omega
  exact ⟨h.inbox, hplaces ▸ Nat.succ_le_succ h.places, h.closing, hheld c ▸ h.held, fun d hd => hheld d ▸ h.others d hd⟩

/-- The link of a state where tags of bus jobs have been replied. -/
theorem tagsEnd_bus {s t : State} {st : Status} {payload tags : List Byte}
    (hlink : SameLink (endTags st payload tags s) t) (hclosing : t.closing = s.closing)
    (hbus : (busTags t ++ tags).Perm (busTags s)) (hprofile : profileTags t = profileTags s) :
    TagsEnd .busJob tags 0 s t := by
  refine ⟨⟨st, payload, hlink.inbox⟩, (hlink.places.trans (places_endTags ..)).le, hclosing, hbus, fun d hd => ?_⟩
  cases d with
  | busJob => exact absurd rfl hd
  | profile => exact List.Perm.of_eq hprofile

/-- The link of a state where a tag of an entry has been replied. -/
theorem tagsEnd_profile {s t : State} {st : Status} {payload : List Byte} {g : Byte}
    (hlink : SameLink (endRequest st payload g s) t) (hclosing : t.closing = s.closing) (hbus : busTags t = busTags s)
    (hprofile : (profileTags t ++ [g]).Perm (profileTags s)) : TagsEnd .profile [g] 0 s t := by
  refine ⟨⟨st, payload, hlink.inbox⟩, (hlink.places.trans (places_endRequest ..)).le, hclosing, hprofile, fun d hd => ?_⟩
  cases d with
  | profile => exact absurd rfl hd
  | busJob => exact List.Perm.of_eq hbus

/-! ### Entries -/

theorem requestTag_staleEntry (hit : SlotNo → Bool) (e : Entry) : requestTag (staleEntry hit e) = requestTag e :=
  congrArg Prod.snd (entryClaim_staleEntry hit e)

theorem requestTag_staleByTarget (e : Entry) : requestTag (staleByTarget e) = requestTag e :=
  congrArg Prod.snd (entryClaim_staleByTarget e)

/-- Entries that age keep their request tags. -/
theorem profileTags_map {s t : State} {g : Entry → Entry} (h : t.entries = s.entries.map g)
    (hg : ∀ e ∈ s.entries, requestTag (g e) = requestTag e) : profileTags t = profileTags s := by
  rw [profileTags, profileTags, h, List.filterMap_map]
  exact List.filterMap_congr hg

theorem sameClaims_raise (b : NoticeBody) (s : State) : SameClaims s (raise b s) :=
  sameClaims_of_eq (by simp) (by simp) (by simp) (by simp) (by simp) (by simp)

theorem sameClaims_staleSlots (hit : SlotNo → Bool) (s : State) : SameClaims s (staleSlots hit s) :=
  ⟨⟨by simp, by simp⟩, by simp, by simp, by simp,
    profileTags_map (staleSlots_entries hit s) fun e _ => requestTag_staleEntry hit e⟩

theorem sameClaims_staleAll (s : State) : SameClaims s (staleAll s) :=
  ⟨⟨by simp, by simp⟩, by simp, by simp, by simp,
    profileTags_map (g := staleByTarget) (by simp [staleAll]) fun e _ => requestTag_staleByTarget e⟩

theorem sameClaims_slotEvent (own : SlotNo → Bool) (changed : Eight Slot) (bodies : List NoticeBody) (s : State) :
    SameClaims s (slotEvent own changed bodies s) := by
  have hraised : SameClaims s (raiseAll bodies (commitSlots own changed s)) :=
    sameClaims_of_eq (by simp [commitSlots]) (by simp [commitSlots]) (by simp) (by simp) (by simp) (by simp)
  exact hraised.trans (sameClaims_staleSlots ..)

theorem sameClaims_failScans (ns : List SlotNo) (c : UnreadableCause) (s : State) : SameClaims s (failScans ns c s) :=
  sameClaims_slotEvent ..

theorem sameClaims_completeScan (n : SlotNo) (img : List Byte) (s : State) : SameClaims s (completeScan n img s) :=
  sameClaims_slotEvent ..

theorem sameClaims_changeCopy (n : SlotNo) (change : ImageCopy → ImageCopy) (s : State) :
    SameClaims s (changeCopy n change s) := sameClaims_of_eq rfl rfl rfl rfl rfl rfl

/-- An entry put in the place of one with its request tag. -/
theorem sameClaims_setEntry {s : State} (hnodup : (s.entries.map Entry.handle).Nodup) {e e' : Entry} (he : e ∈ s.entries)
    (htag : requestTag e' = requestTag e) : SameClaims s (setEntry e.handle e' s) := by
  refine ⟨⟨rfl, rfl⟩, rfl, rfl, rfl, profileTags_map rfl fun x hx => ?_⟩
  split
  next hhandle => rw [htag, List.inj_on_of_nodup_map hnodup hx he hhandle]
  next => rfl

/-- The hand-over keeps the entry's request tag. -/
theorem sameClaims_handOver {s : State} (hnodup : (s.entries.map Entry.handle).Nodup) : SameClaims s (handOver s) := by
  have hsame : SameClaims s s := sameClaims_of_eq rfl rfl rfl rfl rfl rfl
  unfold handOver
  split
  next e _ hfind =>
    have he := List.mem_of_find?_eq_some hfind
    split
    next t ht =>
      have hwork : SameClaims s { s with work := some (takeInputs s e.request) } := sameClaims_of_eq rfl rfl rfl rfl rfl rfl
      refine hwork.trans (sameClaims_setEntry (s := { s with work := some (takeInputs s e.request) }) hnodup he ?_)
      simp [requestTag, ht]
    all_goals exact hsame
  next => exact hsame
  next => exact hsame

/-! ### Jobs that end, start and are demanded -/

theorem busTags_finishJob (s : State) : (busTags (finishJob s)).Perm (waitingTags s) := by
  rcases finishJob_cases s with ⟨hnone, hjobs, hflight, _⟩ | ⟨j, hjobs, hflight, _⟩
  · rw [busTags_eq_waitingTags hflight, waitingTags, waitingTags, hjobs, hnone]
  · rw [busTags_eq_append hflight, waitingTags, waitingTags, hjobs]
    exact List.perm_append_comm

/-- The start of a job moves its tags. -/
theorem busTags_startNext {s : State} (hidle : s.bus = .idle → s.inFlight = none) :
    (busTags (startNext s)).Perm (busTags s) := by
  by_cases hbus : s.bus = .idle
  · have hstart : startNext s = finishJob s := by
      rw [finishJob]
      congr 1
      rw [← hbus, ← hidle hbus]
    rw [hstart, busTags_eq_waitingTags (hidle hbus)]
    exact busTags_finishJob s
  · rw [startNext_not_idle hbus]

theorem waitingTags_joinScan {n : SlotNo} (p : Bool) (ts : List Byte) {js : List Job} (h : js.any (isScanOf n) = true) :
    ((joinScan n p ts js).flatMap Job.tags).Perm (js.flatMap Job.tags ++ ts) := by
  induction js with
  | nil => exact nomatch h
  | cons j js ih =>
    rw [joinScan]
    split
    next =>
      simp only [List.flatMap_cons, List.append_assoc]
      exact List.Perm.append_left _ List.perm_append_comm
    next hj =>
      rw [List.any_cons, Bool.eq_false_iff.mpr hj, Bool.false_or] at h
      simp only [List.flatMap_cons, List.append_assoc]
      exact (ih h).append_left _

theorem waitingTags_enqueueScan_perm (n : SlotNo) (p : Bool) (ts : List Byte) (s : State) :
    (waitingTags (enqueueScan n p ts s)).Perm (waitingTags s ++ ts) := by
  unfold waitingTags enqueueScan
  split
  next h => exact waitingTags_joinScan p ts h
  next => simp

/-- A demand brings its tags. -/
theorem busTags_demandScan (n : SlotNo) (p : Bool) (ts : List Byte) {s : State} (hidle : s.bus = .idle → s.inFlight = none) :
    (busTags (demandScan n p ts s)).Perm (busTags s ++ ts) := by
  have hstart := busTags_startNext (s := enqueueScan n p ts s) (by simpa using hidle)
  have hdemand := waitingTags_enqueueScan_perm n p ts s
  refine hstart.trans ?_
  cases hf : s.inFlight with
  | none => rwa [busTags_eq_waitingTags hf, busTags_eq_waitingTags (by simpa using hf)]
  | some f =>
    rw [busTags_eq_append hf, busTags_eq_append (s := enqueueScan n p ts s) (f := f) (by simpa using hf)]
    refine (hdemand.append_right f.job.tags).trans ?_
    rw [List.append_assoc, List.append_assoc]
    exact List.Perm.append_left _ List.perm_append_comm

theorem waitingTags_demandScans_perm (ns : List SlotNo) (s : State) :
    (waitingTags (demandScans ns s)).Perm (waitingTags s) := by
  induction ns generalizing s with
  | nil => exact .refl _
  | cons n ns ih =>
    have hone := waitingTags_enqueueScan_perm n true [] s
    rw [List.append_nil] at hone
    exact (ih _).trans hone

end Sys2Proof.Machine
end

section
/-! The events of lines and bus at the claims (R72 to R89, R110, R159, R162): which tags each ends. -/

namespace Sys2Proof.Machine

/-! ### The job in flight -/

section Flight
variable {s u : State} {f : InFlight} (hf : s.inFlight = some f)
include hf

/-- The job in flight ends with its tags. -/
theorem tagsEnd_finishJob (hu : SameClaims s u) (st : Status) (payload : List Byte) :
    TagsEnd .busJob f.job.tags 0 s (finishJob (endTags st payload f.job.tags u)) := by
  refine TagsEnd.after (tagsEnd_bus (sameLink_finishJob _) (by simp) ?_ (by simp [profileTags])) hu
  rw [busTags_eq_append (hu.inFlight.trans hf)]
  refine ((busTags_finishJob _).trans ?_).append_right _
  rw [waitingTags, waitingTags, endTags_jobs]

theorem tagsEnd_endStopped : TagsEnd .busJob f.job.tags 0 s (endStopped f s) :=
  tagsEnd_finishJob hf (sameClaims_of_eq rfl rfl rfl rfl rfl rfl) .removed []

/-- The job in flight goes on with the tags it has. -/
theorem sameTags_progress {g : InFlight} (hg : g.job.tags = f.job.tags) :
    TagsEnd .busJob [] 0 s { s with inFlight := some g } := by
  refine tagsEnd_bus (st := .ok) (payload := []) ⟨rfl, rfl⟩ rfl (List.Perm.of_eq ?_) rfl
  rw [List.append_nil, busTags_eq_append hf, busTags_eq_append (f := g) rfl, hg]
  rfl

/-- A job that ends without a tag ends no request. -/
theorem tagsEnd_untagged (htags : f.job.tags = []) : TagsEnd .busJob [] 0 s (finishJob s) := by
  have h := tagsEnd_finishJob hf (sameClaims_of_eq rfl rfl rfl rfl rfl rfl) .ok []
  rwa [htags] at h

end Flight

/-- The failure of a job that is no RECOVER is told to its slot, then to its tags. -/
theorem deliverFailure_eq {f : InFlight} (hwork : f.job.work ≠ .recover) (c : UnreadableCause) (st : Status) (s : State) :
    ∃ u, SameClaims s u ∧ deliverFailure f c st s = endTags st [] f.job.tags u := by
  have hsame : SameClaims s s := sameClaims_of_eq rfl rfl rfl rfl rfl rfl
  unfold deliverFailure
  split
  next => exact ⟨_, sameClaims_failScans .., rfl⟩
  next => exact ⟨s, hsame, rfl⟩
  next =>
    split
    next => exact ⟨_, sameClaims_changeCopy .., rfl⟩
    next => exact ⟨s, hsame, rfl⟩
  next h => exact absurd h hwork

theorem tagsEnd_segmentEnd {s : State} {f : InFlight} (hf : s.inFlight = some f) (n : SlotNo) (bytes : List Byte) :
    ∃ tags, TagsEnd .busJob tags 0 s (segmentEnd n f bytes s) := by
  unfold segmentEnd
  dsimp only
  split_ifs
  · exact ⟨_, tagsEnd_endStopped hf⟩
  · exact ⟨_, tagsEnd_finishJob hf (sameClaims_completeScan ..) _ _⟩
  · exact ⟨_, sameTags_progress hf rfl⟩

theorem tagsEnd_transactionEnd {s : State} {f g : InFlight} (hf : s.inFlight = some f) (hg : g.job = f.job)
    (hwork : f.job.work ≠ .recover) : ∃ tags, TagsEnd .busJob tags 0 s (transactionEnd g s) := by
  unfold transactionEnd
  split_ifs
  · refine ⟨f.job.tags, ?_⟩
    rw [endStopped, hg]
    exact tagsEnd_endStopped hf
  · exact ⟨[], sameTags_progress hf (congrArg Job.tags hg)⟩
  · obtain ⟨u, hu, heq⟩ := deliverFailure_eq (hg ▸ hwork) .noResponse .noResponse s
    rw [heq, hg]
    exact ⟨_, tagsEnd_finishJob hf hu _ _⟩

/-- R73: the job in flight fails with its tags, and the recovery runs without a job. -/
theorem tagsEnd_stuckBus {s : State} {f g : InFlight} (hf : s.inFlight = some f) (hg : g.job = f.job)
    (hwork : f.job.work ≠ .recover) :
    TagsEnd .busJob f.job.tags 0 s { stuckFailure g s with inFlight := none, bus := .recovering, pulses := 0 } := by
  have hended {u : State} (hu : SameClaims s u) (st : Status) : TagsEnd .busJob f.job.tags 0 s
      { endTags st [] f.job.tags u with inFlight := none, bus := .recovering, pulses := 0 } := by
    refine TagsEnd.after (tagsEnd_bus ⟨rfl, rfl⟩ (endTags_closing ..) ?_ (by simp [profileTags])) hu
    rw [busTags_eq_append (hu.inFlight.trans hf), busTags_eq_waitingTags rfl, waitingTags, waitingTags, endTags_jobs]
  unfold stuckFailure
  rw [hg]
  split
  next => exact hended (sameClaims_of_eq rfl rfl rfl rfl rfl rfl) .removed
  next =>
    obtain ⟨u, hu, heq⟩ := deliverFailure_eq (hg ▸ hwork) .bus .busFault s
    rw [heq, hg]
    exact hended hu .busFault

theorem tagsEnd_pollEnd {s : State} {f : InFlight} (hf : s.inFlight = some f) (n : SlotNo) (off : Nat) (acked : Bool) :
    ∃ tags, TagsEnd .busJob tags 0 s (pollEnd f n off acked s) := by
  unfold pollEnd
  split_ifs
  · exact ⟨_, sameTags_progress hf rfl⟩
  · exact ⟨_, sameTags_progress hf rfl⟩
  · exact ⟨_, tagsEnd_finishJob hf (sameClaims_changeCopy ..) _ _⟩

theorem tagsEnd_readBackEnd {s : State} {f : InFlight} (hf : s.inFlight = some f) (n : SlotNo) (off : Nat)
    (data page : List Byte) : TagsEnd .busJob f.job.tags 0 s (readBackEnd f n off data page s) := by
  unfold readBackEnd
  split <;> exact tagsEnd_finishJob hf (sameClaims_changeCopy ..) _ _

/-! ### Recoveries -/

theorem profileTags_enterFaulted (announce : Bool) (s : State) : profileTags (enterFaulted announce s) = profileTags s := by
  have hfailed : profileTags (failScans (presenceScanSlots s.jobs) .bus (queueFailed s)) = profileTags s := by
    rw [(sameClaims_failScans ..).profile, profileTags, queueFailed, endTags_entries]
    rfl
  rw [enterFaulted_eq, announceFault]
  split
  next => rw [(sameClaims_raise ..).profile, hfailed]
  next => exact hfailed

/-- The FAULTED entry replies the tags of all waiting jobs (R82). -/
theorem sameLink_enterFaulted (announce : Bool) (s : State) :
    SameLink (endTags .busFault [] (waitingTags s) s) (enterFaulted announce s) := by
  have hempty : SameLink s { s with bus := .faulted, inFlight := none, jobs := [] } := ⟨rfl, rfl⟩
  have hfailed := (hempty.endTags .busFault [] (waitingTags s)).trans
    (sameClaims_failScans (presenceScanSlots s.jobs) .bus (queueFailed s)).toSameLink
  rw [enterFaulted_eq, announceFault]
  split
  next => exact hfailed.trans (sameClaims_raise ..).toSameLink
  next => exact hfailed

theorem busTags_enterFaulted (announce : Bool) (s : State) : busTags (enterFaulted announce s) = [] := by
  rw [busTags_eq_waitingTags (enterFaulted_inFlight announce s), waitingTags, enterFaulted_jobs]
  rfl

/-- A RECOVER that fails ends its own tags, then those of all waiting jobs. -/
theorem tagsEnd_recoverFault {s : State} {f : InFlight} (hf : s.inFlight = some f) (announce : Bool) :
    TagsEnd .busJob (f.job.tags ++ waitingTags s) 0 s (enterFaulted announce (endTags .busFault [] f.job.tags s)) := by
  have hlink := sameLink_enterFaulted announce (endTags .busFault [] f.job.tags s)
  have hwaiting : waitingTags (endTags .busFault [] f.job.tags s) = waitingTags s := by simp [waitingTags]
  rw [hwaiting, ← endTags_append] at hlink
  refine tagsEnd_bus hlink (by simp) ?_ ((profileTags_enterFaulted ..).trans (by simp [profileTags]))
  rw [busTags_enterFaulted, List.nil_append, busTags_eq_append hf]
  exact List.perm_append_comm

/-- R84: a RECOVER begun in FAULTED ends its tags, and its rescans bring none. -/
theorem tagsEnd_busRecovered {s : State} {f : InFlight} (hf : s.inFlight = some f) :
    TagsEnd .busJob f.job.tags 0 s (busRecovered f s) := by
  have hidle : SameLink s { s with inFlight := none, bus := .idle } := ⟨rfl, rfl⟩
  refine tagsEnd_bus (st := .ok) (payload := []) ((hidle.endTags .ok [] f.job.tags).trans ⟨?_, ?_⟩) ?_ ?_ ?_
  · rw [busRecovered, startNext_tx, recoveryRescans_eq, demandScans_frame, raise_tx]
  · rw [busRecovered, startNext_inbox, recoveryRescans_eq, demandScans_frame, raise_inbox]
  · rw [busRecovered, startNext_closing, recoveryRescans_eq, demandScans_frame, raise_closing, endTags_closing]
  · rw [busRecovered, busTags_eq_append hf]
    have hnone : (recoveryRescans (raise .busRecovered
        (endTags .ok [] f.job.tags { s with inFlight := none, bus := .idle }))).inFlight = none := by
      rw [recoveryRescans_eq, demandScans_frame, raise_inFlight, endTags_inFlight]
    refine ((busTags_startNext fun _ => hnone).trans ?_).append_right f.job.tags
    rw [busTags_eq_waitingTags hnone, recoveryRescans_eq]
    refine (waitingTags_demandScans_perm _ _).trans (List.Perm.of_eq ?_)
    simp [waitingTags]
  · rw [busRecovered, profileTags, startNext_entries, recoveryRescans_eq, demandScans_frame, raise_entries, endTags_entries]
    rfl

theorem tagsEnd_recoveryOutcome (free : Bool) (s : State) :
    ∃ tags, TagsEnd .busJob tags 0 s (recoveryOutcome free s) := by
  unfold recoveryOutcome
  split
  next f hf =>
    unfold recoverEnd
    split
    · exact ⟨_, tagsEnd_finishJob hf (sameClaims_of_eq rfl rfl rfl rfl rfl rfl) _ _⟩
    · exact ⟨_, tagsEnd_recoverFault hf _⟩
    · exact ⟨_, tagsEnd_busRecovered hf⟩
    · exact ⟨_, tagsEnd_recoverFault hf _⟩
  next hf =>
    split
    · have hstart := busTags_startNext (s := { s with bus := .idle }) fun _ => hf
      refine ⟨[], tagsEnd_bus (st := .ok) (payload := []) ⟨by simp [endTags], by simp [endTags]⟩ (by simp) ?_
        (by simp [profileTags])⟩
      rw [List.append_nil]
      exact hstart
    · refine ⟨waitingTags s, tagsEnd_bus (sameLink_enterFaulted ..) (by simp) ?_ (profileTags_enterFaulted ..)⟩
      rw [busTags_enterFaulted, List.nil_append, busTags_eq_waitingTags hf]

/-! ### Lines -/

theorem sameClaims_removalEvent (n : SlotNo) (s : State) : SameClaims s (removalEvent n s) := sameClaims_slotEvent ..

/-- The tags a removal leaves on waiting jobs, with those it replies of them. -/
theorem keptTags_append_purgedTags (n : SlotNo) (s : State) :
    ((keptJobs n s).flatMap Job.tags ++ purgedTags n s).Perm (waitingTags s) := by
  rw [keptJobs, purgedTags, waitingTags, ← List.flatMap_append]
  refine List.Perm.flatMap_right Job.tags (List.perm_append_comm.trans ?_)
  exact List.filter_append_perm (fun j => slotOfWork j.work == some n) s.jobs

theorem busTags_removal (n : SlotNo) (s : State) :
    (busTags (removal n s) ++ (writeTags n s ++ purgedTags n s ++ retryTags n s)).Perm (busTags s) := by
  have hkept : (purgeJobs n (removalEvent n s)).jobs = keptJobs n s := by
    rw [purgeJobs_jobs, keptJobs, removalEvent_jobs, keptJobs]
  have hwaiting := keptTags_append_purgedTags n s
  rcases flight_cases n s with hother | ⟨f, hf, hslot, hreading | hwrite⟩
  · rw [removal_of_other hother, writeTags_of_other hother, retryTags_of_other hother, List.append_nil, List.nil_append]
    have hflight : (purgeJobs n (removalEvent n s)).inFlight = s.inFlight := by
      rw [purgeJobs_inFlight, removalEvent_inFlight]
    rw [busTags, hkept, hflight, busTags, List.append_assoc]
    refine (List.Perm.append_left _ List.perm_append_comm).trans ?_
    rw [← List.append_assoc]
    exact hwaiting.append_right _
  · rw [removal_of_reading hf hslot hreading, writeTags_of_reading hf hslot hreading, List.nil_append, busTags_eq_append hf]
    rcases markToStop_cases { f with job := unclaimed f.job } (purgeJobs n (removalEvent n s)) with
      ⟨ha, hended⟩ | ⟨ha, hmarked⟩
    · rw [hended, retryTags_of_retryWait hf hslot hreading ha, ← List.append_assoc]
      refine List.Perm.append_right _ (((busTags_finishJob _).append_right _).trans ?_)
      rw [waitingTags, endTags_jobs, hkept]
      exact hwaiting
    · rw [hmarked, retryTags_of_transaction hf hslot hreading ha, List.append_nil,
        busTags_eq_append (f := { { f with job := unclaimed f.job } with stopMark := true }) rfl, waitingTags, hkept,
        List.append_assoc]
      refine (List.Perm.append_left _ List.perm_append_comm).trans ?_
      rw [← List.append_assoc]
      exact hwaiting.append_right _
  · rw [removal_of_write hf hslot hwrite, writeTags_of_write hf hslot hwrite, retryTags_of_write hf hslot hwrite,
      List.append_nil, busTags_eq_append hf,
      busTags_eq_append (f := { f with job := { f.job with tags := [] }, activity := .stopCondition })
        (purgeJobs_inFlight n _), List.append_nil, waitingTags, purgeJobs_jobs, keptJobs, endTags_jobs, removalEvent_jobs,
      ← keptJobs]
    refine (List.Perm.append_left _ List.perm_append_comm).trans ?_
    rw [← List.append_assoc]
    exact hwaiting.append_right _

theorem tagsEnd_removal (n : SlotNo) (s : State) :
    TagsEnd .busJob (writeTags n s ++ purgedTags n s ++ retryTags n s) 0 s (removal n s) := by
  refine tagsEnd_bus (sameLink_removal n s) (sameSetup_removal n s).closing (busTags_removal n s) ?_
  rw [removal_frame]
  exact (sameClaims_removalEvent n s).profile

theorem tagsEnd_presenceHigh (n : SlotNo) (s : State) : ∃ tags, TagsEnd .busJob tags 0 s (presenceHigh n s) := by
  unfold presenceHigh
  split
  · exact ⟨[], SameClaims.tagsEnd (sameClaims_of_eq rfl rfl rfl rfl rfl rfl)⟩
  · exact ⟨[], SameClaims.tagsEnd (sameClaims_of_eq rfl rfl rfl rfl rfl rfl)⟩
  all_goals exact ⟨_, tagsEnd_removal n s⟩

theorem tagsEnd_insertion (n : SlotNo) {s : State} (h : BusInv s) : TagsEnd .busJob [] 0 s (insertion n s) := by
  unfold insertion
  dsimp only
  refine TagsEnd.before ?_ (sameClaims_raise _ _)
  split
  next => exact SameClaims.tagsEnd (sameClaims_of_eq rfl rfl rfl rfl rfl rfl)
  next =>
    refine tagsEnd_bus (st := .ok) (payload := []) ⟨by simp [endTags], by simp [endTags]⟩ (by simp) ?_
      (by simp [profileTags])
    rw [List.append_nil]
    have hdemand := busTags_demandScan n true []
      (s := { s with slots := s.slots.set n (insertedSlot (s.bus == .faulted) (s.slots.get n)) })
      fun hidle => (h.idle hidle).1
    rwa [List.append_nil] at hdemand

/-! ### The completion of a resolution -/

theorem requestTag_judge (s : State) (sn : Snapshot) (o : Outcome) (e : Entry) :
    requestTag { e with state := judge s sn o } = none := by
  cases o with
  | failure f => rfl
  | result p =>
    rw [judge]
    split
    next => rfl
    next => rfl

/-- The RESOLVE of a completed entry is the request that ends (R110, R138). -/
theorem tagsEnd_resolutionEnd {s : State} (h : TableInv s) (w : Work) {e : Entry} (he : e ∈ s.entries) {tag : Byte}
    {sn : Snapshot} (hst : e.state = .building tag sn) : TagsEnd .profile [tag] 0 s (resolutionEnd w e tag sn s) := by
  obtain ⟨front, back, hs⟩ := List.append_of_mem he
  have htag : requestTag e = some tag := by rw [requestTag, hst]
  unfold resolutionEnd
  dsimp only
  rw [setEntry_eq hs h.nodup]
  generalize hreply : completionReply { e with state := judge s sn (resolveWork w) } = reply
  have hjudged : SameLink s { s with
      entries := front ++ { e with state := judge s sn (resolveWork w) } :: back, work := none } := ⟨rfl, rfl⟩
  refine TagsEnd.before (tagsEnd_profile (hjudged.endRequest reply.1 reply.2 tag) (by simp) ?_ ?_)
    (sameClaims_handOver ?_)
  · exact busTags_congr (by simp) (by simp)
  · rw [profileTags, profileTags, endRequest_entries, hs, List.filterMap_append, List.filterMap_append,
      List.filterMap_cons_none (requestTag_judge ..), List.filterMap_cons_some htag, List.append_assoc]
    exact List.Perm.append_left _ List.perm_append_comm
  · rw [endRequest_entries]
    have hnodup := h.nodup
    rw [hs, List.map_append, List.map_cons] at hnodup
    rwa [List.map_append, List.map_cons]

end Sys2Proof.Machine
end

section
/-! The requests at the claims (R88, R89, R145, R146, R156 to R165): what each owner's act does to places, outstanding
requests and their claims. -/

namespace Sys2Proof.Machine

/-! ### Replies at once -/

/-- One more reply where a place is free. -/
theorem LinkOk.answers {s t : State} (h : LinkOk s) (hplace : places s < 8) {c : Claim} {tags : List Byte}
    (he : TagsEnd c tags 0 s t) (tag kind : Byte) (st : Status) (payload : List Byte) :
    LinkOk (answer tag kind st payload t) := h.ends (he.answered tag kind st payload) hplace

theorem LinkOk.replies {s t : State} (h : LinkOk s) (hplace : places s < 8) (hst : SameClaims s t) (tag kind : Byte)
    (st : Status) (payload : List Byte) : LinkOk (answer tag kind st payload t) := h.answers hplace hst.tagsEnd ..

theorem sameClaims_changeOverrides (n : SlotNo) (os : List Override) (s : State) :
    SameClaims s (changeOverrides n os s) := by
  have hslots : SameClaims s { s with
      slots := s.slots.set n { s.slots.get n with overrides := os, gen := (s.slots.get n).gen + 1 } } :=
    sameClaims_of_eq rfl rfl rfl rfl rfl rfl
  exact hslots.trans (sameClaims_staleSlots ..)

theorem sameClaims_replaceTarget (target : Target) (s : State) : SameClaims s (replaceTarget target s) := by
  have htarget : SameClaims s { s with target := target, targetGen := s.targetGen + 1 } :=
    sameClaims_of_eq rfl rfl rfl rfl rfl rfl
  exact htarget.trans (sameClaims_staleAll _)

/-! ### Requests taken for later -/

/-- A bus request joins with its tag on a job. -/
theorem LinkOk.joinsBus {s t : State} (h : LinkOk s) {tag kind : Byte} (htaken : Taken s tag kind)
    (hwaits : kind ∉ passesFull) (hlink : SameLink (joinInbox tag kind .busJob s) t) (hclosing : t.closing = s.closing)
    (hbus : (busTags t).Perm (busTags s ++ [tag])) (hentries : t.entries = s.entries) : LinkOk t := by
  refine h.joins htaken hwaits hlink.inbox hlink.tx hclosing hbus fun d hd => ?_
  cases d with
  | busJob => exact absurd rfl hd
  | profile => exact List.Perm.of_eq (congrArg (List.filterMap requestTag) hentries)

theorem LinkOk.takeJob {s : State} (h : LinkOk s) (hs : BusOk s) {tag kind : Byte} (htaken : Taken s tag kind)
    (hwaits : kind ∉ passesFull) (w : JobWork) : LinkOk (takeJob tag kind w s) := by
  refine h.joinsBus htaken hwaits ⟨by simp [Machine.takeJob], by simp [Machine.takeJob]⟩ (by simp [Machine.takeJob]) ?_
    (by simp [Machine.takeJob])
  rw [Machine.takeJob, appendJob]
  have hidle (hbus : s.bus = .idle) : s.inFlight = none := (hs.bus.idle hbus).1
  refine (busTags_startNext (s := { joinInbox tag kind .busJob s with jobs := s.jobs ++ [_] }) hidle).trans ?_
  cases hf : s.inFlight with
  | none =>
    rw [busTags_eq_waitingTags hf, busTags_eq_waitingTags (by exact hf), waitingTags, List.flatMap_append]
    exact List.Perm.refl _
  | some f =>
    rw [busTags_eq_append hf, busTags_eq_append (f := f) (by exact hf), waitingTags, List.flatMap_append, List.append_assoc,
      List.append_assoc]
    exact List.Perm.append_left _ List.perm_append_comm

theorem LinkOk.takeScan {s : State} (h : LinkOk s) (hs : BusOk s) {tag kind : Byte} (htaken : Taken s tag kind)
    (hwaits : kind ∉ passesFull) (n : SlotNo) : LinkOk (demandScan n false [tag] (joinInbox tag kind .busJob s)) :=
  h.joinsBus htaken hwaits ⟨by simp, by simp⟩ (by simp)
    (busTags_demandScan n false [tag] (s := joinInbox tag kind .busJob s) fun hidle => (hs.bus.idle hidle).1) (by simp)

theorem LinkOk.takeRecovery {s : State} (h : LinkOk s) (hs : BusOk s) (hbus : s.bus = .faulted) {tag kind : Byte}
    (htaken : Taken s tag kind) (hwaits : kind ∉ passesFull) :
    LinkOk (startJob { work := .recover, presence := false, tags := [tag] } true (joinInbox tag kind .busJob s)) := by
  obtain ⟨hnone, hjobs⟩ := hs.bus.faulted hbus
  refine h.joinsBus htaken hwaits ⟨rfl, rfl⟩ rfl (List.Perm.of_eq ?_) rfl
  rw [busTags_eq_waitingTags hnone]
  rfl

/-- An evicted entry waits for no reply. -/
theorem sameClaims_evict {s : State} (hroom : hasRoom s = true) : SameClaims s (evict s) := by
  rcases evict_cases hroom with ⟨_, hsame⟩ | ⟨front, back, e, hs, hevictable, hevicted⟩
  · rw [hsame]
    exact sameClaims_of_eq rfl rfl rfl rfl rfl rfl
  · rw [hevicted]
    refine ⟨⟨rfl, rfl⟩, rfl, rfl, rfl, ?_⟩
    have htag : requestTag e = none := by
      cases hst : e.state with
      | queued => simp [evictable, hst] at hevictable
      | building => simp [evictable, hst] at hevictable
      | _ => simp [requestTag, hst]
    rw [profileTags, profileTags, hs, List.filterMap_append, List.filterMap_append, List.filterMap_cons_none htag]

theorem LinkOk.takeResolve {s : State} (h : LinkOk s) (hs : ProfilesOk s) {tag kind : Byte} (htaken : Taken s tag kind)
    (hkind : kind = kindResolve) {p : List Byte} {r : ResolveRequest} (hr : resolveArg p = some r)
    (hroom : hasRoom s = true) : LinkOk (takeResolve tag r s) := by
  subst hkind
  have hevicted := sameClaims_evict hroom
  obtain ⟨hslots, hascending⟩ := slots_of_resolveArg hr
  obtain ⟨htable, _, hfive⟩ := hs.evict hroom
  have hjoined : LinkOk (joinInbox tag kindResolve .profile (allocate tag r (evict s))) := by
    refine h.joins (c := .profile) htaken (by decide) ?_ hevicted.tx hevicted.closing (List.Perm.of_eq ?_) fun d hd => ?_
    · rw [joinInbox, allocate_inbox, hevicted.inbox]
    · rw [heldTags, heldTags, ← hevicted.profile]
      exact List.filterMap_append
    · cases d with
      | profile => exact absurd rfl hd
      | busJob => exact List.Perm.of_eq (busTags_congr hevicted.jobs hevicted.inFlight)
  exact hjoined.congr (sameClaims_handOver (htable.allocate hfive tag hslots hascending).nodup)

/-! ### Entries dropped -/

/-- A dropped entry ends the request that waits for it, if one does (R145, R146). -/
theorem tagsEnd_dropEntry {s : State} (h : TableInv s) {e : Entry} (he : e ∈ s.entries) :
    ∃ c tags, TagsEnd c tags 0 s (dropEntry e s) := by
  obtain ⟨front, back, hs⟩ := List.append_of_mem he
  have hnodup := h.nodup
  have hleft (g : Byte) : freeEntry e.handle (endRequest .cancelled [e.handle] g s) =
      { endRequest .cancelled [e.handle] g s with entries := front ++ back } :=
    freeEntry_eq ((endRequest_entries ..).trans hs) ((endRequest_entries ..).symm ▸ hnodup)
  have hended {g : Byte} (hg : requestTag e = some g) :
      TagsEnd .profile [g] 0 s { endRequest .cancelled [e.handle] g s with entries := front ++ back } := by
    refine tagsEnd_profile (st := .cancelled) (payload := [e.handle]) ⟨rfl, rfl⟩ (endRequest_closing ..)
      (busTags_congr (endRequest_jobs ..) (endRequest_inFlight ..)) ?_
    rw [profileTags, profileTags, hs, List.filterMap_append, List.filterMap_append, List.filterMap_cons_some hg,
      List.append_assoc]
    exact List.Perm.append_left _ List.perm_append_comm
  cases hst : e.state with
  | queued g =>
    have hg : requestTag e = some g := by rw [requestTag, hst]
    refine ⟨.profile, [g], ?_⟩
    simp only [dropEntry, hst]
    rw [hleft]
    exact hended hg
  | building g sn =>
    have hg : requestTag e = some g := by rw [requestTag, hst]
    have hidle : SameClaims { endRequest .cancelled [e.handle] g s with entries := front ++ back }
        { endRequest .cancelled [e.handle] g s with entries := front ++ back, work := none } :=
      sameClaims_of_eq rfl rfl rfl rfl rfl rfl
    refine ⟨.profile, [g], ?_⟩
    simp only [dropEntry, hst]
    rw [hleft]
    refine ((hended hg).before hidle).before (sameClaims_handOver ?_)
    rw [hs] at hnodup
    exact hnodup.sublist (((List.sublist_cons_self e back).append_left front).map _)
  | _ =>
    have hnone : requestTag e = none := by rw [requestTag, hst]
    refine ⟨.busJob, [], SameClaims.tagsEnd ?_⟩
    rw [dropEntry_of_requestTag_none hnone, freeEntry_eq hs hnodup]
    refine ⟨⟨rfl, rfl⟩, rfl, rfl, rfl, ?_⟩
    rw [profileTags, profileTags, hs, List.filterMap_append, List.filterMap_append, List.filterMap_cons_none hnone]

/-! ### Bus requests withdrawn -/

/-- The waiting jobs that lose a claim, with those that are left without one: the tag alone is gone (R88). -/
theorem flatMap_tags_dropClaim (g : Byte) {js : List Job} (hnodup : (js.flatMap Job.tags).Nodup) :
    (dropClaim g js).flatMap Job.tags = (js.flatMap Job.tags).filter (· != g) := by
  induction js with
  | nil => rfl
  | cons j js ih =>
    rw [List.flatMap_cons] at hnodup
    have hj : j.tags.erase g = j.tags.filter (· != g) := (List.nodup_append.mp hnodup).1.erase_eq_filter g
    have hjs := ih (List.nodup_append.mp hnodup).2.1
    rw [dropClaim] at hjs
    rw [dropClaim, List.map_cons, List.filter_cons, List.flatMap_cons, List.filter_append, ← hjs]
    split
    next => rw [List.flatMap_cons, hj]
    next hclaim =>
      have hnone : j.tags.filter (· != g) = [] := by
        rw [← hj]
        simp only [claimless, Bool.not_eq_true', Bool.and_eq_false_imp, List.isEmpty_iff, not_forall] at hclaim
        exact hclaim.1
      rw [hnone, List.nil_append]

theorem perm_filter_ne_append {g : Byte} {l : List Byte} (hnodup : l.Nodup) (hg : g ∈ l) :
    (l.filter (· != g) ++ [g]).Perm l := by
  rw [← hnodup.erase_eq_filter]
  exact List.perm_append_comm.trans (List.perm_cons_erase hg).symm

theorem tagsEnd_unqueued {s : State} (hnodup : (busTags s).Nodup) {g : Byte} (hg : g ∈ waitingTags s) :
    TagsEnd .busJob [g] 0 s (endRequest .cancelled [] g { s with jobs := dropClaim g s.jobs }) := by
  have hwaiting : (waitingTags s).Nodup := (List.nodup_append.mp hnodup).1
  have hjobs : SameLink s { s with jobs := dropClaim g s.jobs } := ⟨rfl, rfl⟩
  refine tagsEnd_bus (hjobs.endTags .cancelled [] [g]) (by simp) ?_ (by simp [profileTags])
  rw [busTags_congr (s := { s with jobs := dropClaim g s.jobs }) (endRequest_jobs ..) (endRequest_inFlight ..), busTags,
    busTags, flatMap_tags_dropClaim g hwaiting, List.append_assoc]
  refine (List.Perm.append_left _ List.perm_append_comm).trans ?_
  rw [← List.append_assoc]
  exact (perm_filter_ne_append hwaiting hg).append_right _

/-- A job without tags is stopped, or ends: only queue and job in flight change. -/
theorem markToStop_untagged {g : InFlight} (htags : g.job.tags = []) (s : State) :
    markToStop g s =
      if g.activity = .retryWait then finishJob s else { s with inFlight := some { g with stopMark := true } } := by
  rw [markToStop, endStopped, htags]
  rfl

/-- Link, CLOSING and entries are as they were. -/
structure SameBeside (s t : State) : Prop extends SameLink s t where
  closing : t.closing = s.closing
  entries : t.entries = s.entries

theorem sameBeside_finishJob (s : State) : SameBeside s (finishJob s) := ⟨sameLink_finishJob s, by simp, by simp⟩

theorem sameBeside_markToStop {g : InFlight} (htags : g.job.tags = []) (s : State) : SameBeside s (markToStop g s) := by
  rw [markToStop_untagged htags]
  split
  next => exact sameBeside_finishJob s
  next => exact ⟨⟨rfl, rfl⟩, rfl, rfl⟩

theorem busTags_markToStop {g : InFlight} (htags : g.job.tags = []) (s : State) :
    (busTags (markToStop g s)).Perm (waitingTags s) := by
  rw [markToStop_untagged htags]
  split
  next => exact busTags_finishJob s
  next =>
    rw [busTags_eq_append (f := { g with stopMark := true }) rfl, htags, List.append_nil]
    exact List.Perm.refl _

/-- A claim leaves the job in flight, which is stopped without another claim (R89). -/
theorem dropFlightClaim_cases (g : Byte) (f : InFlight) (s : State) :
    f.job.tags.erase g = [] ∧
        dropFlightClaim g f s = markToStop { f with job := { f.job with tags := f.job.tags.erase g } } s ∨
      dropFlightClaim g f s = { s with inFlight := some { f with job := { f.job with tags := f.job.tags.erase g } } } := by
  unfold dropFlightClaim
  dsimp only
  split
  next hclaim =>
    simp only [claimless, Bool.and_eq_true, List.isEmpty_iff] at hclaim
    exact .inl ⟨hclaim.1, rfl⟩
  next => exact .inr rfl

theorem busTags_dropFlightClaim (g : Byte) (f : InFlight) (s : State) :
    (busTags (dropFlightClaim g f s)).Perm (waitingTags s ++ f.job.tags.erase g) := by
  rcases dropFlightClaim_cases g f s with ⟨hnone, hstopped⟩ | hgoes
  · rw [hstopped, hnone, List.append_nil]
    exact busTags_markToStop rfl s
  · rw [hgoes, busTags_eq_append (f := { f with job := { f.job with tags := f.job.tags.erase g } }) rfl]
    exact List.Perm.refl _

theorem sameBeside_dropFlightClaim (g : Byte) (f : InFlight) (s : State) : SameBeside s (dropFlightClaim g f s) := by
  rcases dropFlightClaim_cases g f s with ⟨hnone, hstopped⟩ | hgoes
  · rw [hstopped]
    exact sameBeside_markToStop hnone s
  · rw [hgoes]
    exact ⟨⟨rfl, rfl⟩, rfl, rfl⟩

theorem tagsEnd_unclaimed {s : State} {f : InFlight} (hf : s.inFlight = some f) {g : Byte} (hg : g ∈ f.job.tags)
    (tag : Byte) : TagsEnd .busJob [g] 1 s (dropFlightClaim g f (cancelledThenOk tag g s)) := by
  obtain ⟨hlink, hclosing, hentries⟩ := sameBeside_dropFlightClaim g f (cancelledThenOk tag g s)
  have hjobs : (cancelledThenOk tag g s).jobs = s.jobs := by simp [cancelledThenOk]
  refine ⟨⟨.cancelled, [], hlink.inbox⟩, ?_, hclosing.trans (by simp [cancelledThenOk]), ?_, fun d hd => ?_⟩
  · rw [hlink.places, cancelledThenOk]
    refine Nat.le_of_eq ?_
    rw [← places_endRequest .cancelled [] g s]
    simp only [places, answer, place, List.length_append, List.length_singleton]
    omega
  · refine ((busTags_dropFlightClaim g f _).append_right [g]).trans ?_
    rw [waitingTags, hjobs, ← waitingTags, heldTags, busTags_eq_append hf, List.append_assoc]
    exact (List.perm_append_comm.trans (List.perm_cons_erase hg).symm).append_left _
  · cases d with
    | busJob => exact absurd rfl hd
    | profile =>
      refine List.Perm.of_eq (congrArg (List.filterMap requestTag) (hentries.trans ?_))
      simp [cancelledThenOk]

/-! ### Resets -/

/-- After the ABORTED replies and the OK every place taken before is taken, and one more (R164). -/
theorem places_aborted (tag : Byte) (s : State) : places (answer tag kindReset .ok [] (abortAll s)) = places s + 1 := by
  simp only [places, answer, place, abortAll, List.length_append, List.length_map, List.length_singleton, List.length_nil]

theorem sameBeside_sessionBus (s : State) : SameBeside s (sessionBus s) := by
  unfold sessionBus
  dsimp only
  split
  next => exact ⟨⟨rfl, rfl⟩, rfl, rfl⟩
  next f _ =>
    have hstopped : SameBeside s
        (markToStop { f with job := withoutTags f.job } { s with jobs := (s.jobs.filter Job.presence).map withoutTags }) :=
      have h := sameBeside_markToStop (g := { f with job := withoutTags f.job }) rfl
        { s with jobs := (s.jobs.filter Job.presence).map withoutTags }
      ⟨⟨h.tx, h.inbox⟩, h.closing, h.entries⟩
    split
    next =>
      split
      next => exact ⟨⟨rfl, rfl⟩, rfl, rfl⟩
      next => exact hstopped
    next => exact hstopped
    next => exact ⟨⟨rfl, rfl⟩, rfl, rfl⟩
    next => exact ⟨⟨rfl, rfl⟩, rfl, rfl⟩

/-- After a RESET nothing is outstanding and no job or entry has a tag. -/
theorem linkOk_reset {tag : Byte} {s t : State} (hplace : places s < 8)
    (hlink : SameLink (sessionBus (answer tag kindReset .ok [] (abortAll s))) t)
    (hbus : busTags t = busTags (sessionBus (answer tag kindReset .ok [] (abortAll s)))) (hprofile : profileTags t = []) :
    LinkOk t := by
  have hsession := sameBeside_sessionBus (answer tag kindReset .ok [] (abortAll s))
  refine linkOk_of_empty (hlink.inbox.trans hsession.inbox) ?_ (hbus.trans (sessionBus_claims _).1) hprofile
  rw [hlink.places, hsession.places, places_aborted]
  exact hplace

theorem linkOk_resetBySession (tag : Byte) {s : State} (hplace : places s < 8) : LinkOk (resetBySession tag s) :=
  linkOk_reset hplace ⟨rfl, rfl⟩ rfl rfl

theorem linkOk_resetByFull (tag : Byte) {s : State} (hplace : places s < 8) : LinkOk (resetByFull tag s) := by
  refine linkOk_reset (tag := tag) hplace ⟨rfl, rfl⟩ rfl (List.filterMap_eq_nil_iff.mpr fun e he => ?_)
  exact Option.isNone_iff_eq_none.mp (List.mem_filter.mp he).2

/-! ### Every owner -/

theorem Taken.place_free {s : State} {tag kind : Byte} (h : Taken s tag kind) : places s < 8 := by
  obtain ⟨_, _, hplace, _⟩ := h
  exact hplace

/-- Whatever the owner of a taken frame does, places and claims stay right. -/
theorem LinkOk.owner {s t : State} (h : LinkOk s) (hbus : BusOk s) (hprofiles : ProfilesOk s) {tag kind : Byte}
    (htaken : Taken s tag kind) (hdoes : OwnerDoes tag kind s t) : LinkOk t := by
  have hplace := htaken.place_free
  cases hdoes with
  | nothing => exact h
  | replies =>
    refine h.replies hplace ?_ ..
    exact sameClaims_of_eq rfl rfl rfl rfl rfl rfl
  | configures =>
    refine h.replies hplace ?_ ..
    exact sameClaims_of_eq rfl rfl rfl rfl rfl rfl
  | targets => exact h.replies hplace (sameClaims_replaceTarget ..) ..
  | ladders =>
    refine h.replies hplace ?_ ..
    exact sameClaims_of_eq rfl rfl rfl rfl rfl rfl
  | overrides => exact h.replies hplace (sameClaims_changeOverrides ..) ..
  | marks he =>
    refine h.replies hplace ?_ ..
    exact sameClaims_setEntry hprofiles.table.nodup he rfl
  | fetches =>
    refine h.replies hplace ?_ ..
    exact sameClaims_of_eq rfl rfl rfl rfl rfl rfl
  | queues hwaits w => exact h.takeJob hbus htaken hwaits w
  | scans hwaits n => exact h.takeScan hbus htaken hwaits n
  | recovers hwaits hfaulted => exact h.takeRecovery hbus hfaulted htaken hwaits
  | resolves hkind hr hroom => exact h.takeResolve hprofiles htaken hkind hr hroom
  | drops he =>
    obtain ⟨c, tags, hended⟩ := tagsEnd_dropEntry hprofiles.table he
    exact h.answers hplace hended ..
  | unqueues hg => exact h.answers hplace (tagsEnd_unqueued (h.heldTags_nodup .busJob) hg) ..
  | unclaims hf hg => exact h.ends (tagsEnd_unclaimed hf hg tag) hplace
  | resets => exact linkOk_resetBySession tag hplace
  | closes => exact linkOk_resetByFull tag hplace

end Sys2Proof.Machine
end

section
/-! Every step keeps places, outstanding requests and claims (O54). -/

namespace Sys2Proof.Machine

/-! ### Frames, bytes and gaps -/

/-- Places and claims are right, with the bus and the Profile Table, where the claims are. -/
structure ClaimsKept (s : State) : Prop where
  bus : BusOk s
  profiles : ProfilesOk s
  link : LinkOk s

theorem framesKeep_claimsKept : FramesKeep ClaimsKept where
  receiver _ _ _ h := ⟨h.bus.congr (busAlike_of_eq rfl rfl rfl rfl rfl),
    h.profiles.congr (profileAlike_of_eq rfl rfl rfl rfl rfl), h.link.congr (sameClaims_of_eq rfl rfl rfl rfl rfl rfl)⟩
  dropped _ _ h := ⟨h.bus.congr (quiet_raise _ _).busAlike, linkKeeps_profilesOk.dropped _ _ h.profiles,
    h.link.congr (sameClaims_raise _ _)⟩
  refused _ _ _ _ hplace h := ⟨h.bus.congr (busAlike_answer ..), h.profiles.congr (profileAlike_answer ..),
    h.link.replies hplace (sameClaims_of_eq rfl rfl rfl rfl rfl rfl) ..⟩
  owned tag kind payload _ htaken h := ⟨h.bus.ownerOf tag kind payload, h.profiles.ownerOf tag kind payload,
    h.link.owner h.bus h.profiles htaken (ownerOf_does ..)⟩

theorem Inv.claimsKept {s : State} (h : Inv s) (hrun : s.resetAsserted = false) : ClaimsKept s :=
  ⟨h.busOk hrun, h.profilesOk, linkOk_iff.mpr ⟨h.link, h.claims⟩⟩

/-! ### Events of lines, bus and Resolver -/

/-- The command comes from lines, bus or Resolver. -/
def isModuleEvent (c : Instr) : Prop :=
  requestFrame c = none ∧ c ≠ .lineReset ∧ (∀ b, c ≠ .byteReceived b) ∧ c ≠ .gapExpiry ∧ c ≠ .replySendStart ∧ c ≠ .replySent

/-- A bus transaction is no RECOVER's. -/
theorem BusOk.work_of_transaction {s : State} (h : BusOk s) {f : InFlight} (hf : s.inFlight = some f)
    (ha : f.activity = .transaction) : f.job.work ≠ .recover :=
  fun hrecover => nomatch ha.symm.trans (h.recovery f hf hrecover)

/-- A RECOVER is on no BUSY bus. -/
theorem BusOk.work_of_busy {s : State} (h : BusOk s) {f : InFlight} (hf : s.inFlight = some f) (hbus : s.bus = .busy) :
    f.job.work ≠ .recover := fun hrecover => by
  have hflight := h.bus.flight hf
  rw [if_pos hrecover, hbus] at hflight
  exact nomatch hflight

/-- A USER WRITE at its STOP condition has replied its tags. -/
theorem FlightOk.untagged {s : State} {f : InFlight} (h : FlightOk s f) (ha : f.activity = .stopCondition) :
    f.job.tags = [] := by
  obtain ⟨_, hprogress, _⟩ := h
  cases hwork : f.job.work <;> simp_all [progressOk]

/-- Such an event ends some claims, and begins none. -/
theorem Inv.exec_tagsEnd {s t : State} (h : Inv s) (hrun : s.resetAsserted = false) {c : Instr} (hc : isModuleEvent c)
    (ht : exec c s = .next t) : ∃ form tags, TagsEnd form tags 0 s t := by
  have hs := h.busOk hrun
  obtain ⟨hframe, hreset, hbyte, hgap, hstart, hsent⟩ := hc
  have hbeside {u : State} (hu : SameClaims s u) : ∃ form tags, TagsEnd form tags 0 s u := ⟨_, _, hu.tagsEnd⟩
  have hsame : ∃ form tags, TagsEnd form tags 0 s s := hbeside (sameClaims_of_eq rfl rfl rfl rfl rfl rfl)
  have hbus {u : State} : (∃ tags, TagsEnd .busJob tags 0 s u) → ∃ form tags, TagsEnd form tags 0 s u := fun hu => ⟨_, hu⟩
  cases c with
  | lineReset => exact absurd rfl hreset
  | byteReceived b => exact absurd rfl (hbyte b)
  | gapExpiry => exact absurd rfl hgap
  | replySendStart => exact absurd rfl hstart
  | replySent => exact absurd rfl hsent
  | lineResetRelease rate pres =>
    rcases exec_lineResetRelease_cases ht with rfl | ⟨hasserted, _⟩
    · exact hsame
    · exact nomatch hrun.symm.trans hasserted
  | presenceLow n =>
    rcases exec_presenceLow_cases ht with ⟨_, rfl⟩ | ⟨_, rfl⟩
    · exact hsame
    · exact hbeside (sameClaims_of_eq (by simp) (by simp) (by simp) (by simp) (by simp) (by simp))
  | presenceHigh n =>
    rcases exec_presenceHigh_cases ht with ⟨_, rfl⟩ | ⟨_, rfl⟩
    · exact hsame
    · obtain ⟨tags, hended⟩ := tagsEnd_presenceHigh n { s with pres := s.pres.set n true }
      exact ⟨_, tags, hended.after (sameClaims_of_eq rfl rfl rfl rfl rfl rfl)⟩
  | settleExpiry n =>
    rcases exec_settleExpiry_cases ht with rfl | ⟨_, rfl⟩
    · exact hsame
    · exact ⟨_, _, tagsEnd_insertion n hs.bus⟩
  | segmentDone bytes =>
    rcases exec_segmentDone_cases ht with rfl | ⟨f, n, hf, _, _, rfl⟩
    · exact hsame
    · exact hbus (tagsEnd_segmentEnd hf n bytes)
  | transactionFailed acked =>
    rcases exec_transactionFailed_cases ht with rfl | ⟨f, hf, ha, rfl⟩
    · exact hsame
    · exact hbus (tagsEnd_transactionEnd (g := noteAcked acked f) hf rfl (hs.work_of_transaction hf ha))
  | retryTimerExpiry =>
    rcases exec_retryTimerExpiry_cases ht with rfl | ⟨f, hf, _, ⟨_, rfl⟩ | ⟨_, rfl⟩⟩
    · exact hsame
    · exact ⟨_, _, tagsEnd_endStopped hf⟩
    · exact ⟨_, _, sameTags_progress hf rfl⟩
  | stuckBus acked =>
    rcases exec_stuckBus_cases ht with rfl | ⟨f, hf, hbusy, rfl⟩
    · exact hsame
    · exact ⟨_, _, tagsEnd_stuckBus (g := noteAcked acked f) hf rfl (hs.work_of_busy hf hbusy)⟩
  | recoveryEnd looks scl sda =>
    rcases exec_recoveryEnd_cases ht with rfl | ⟨_, rfl⟩
    · exact hsame
    · obtain ⟨tags, hended⟩ := tagsEnd_recoveryOutcome (scl && sda) { s with pulses := pulsesSent looks }
      exact ⟨_, tags, hended.after (sameClaims_of_eq rfl rfl rfl rfl rfl rfl)⟩
  | moduleReadDone bytes =>
    rcases exec_moduleReadDone_cases ht with rfl | ⟨f, n, off, len, hf, _, rfl | rfl⟩
    · exact hsame
    · exact ⟨_, _, tagsEnd_endStopped hf⟩
    · exact ⟨_, _, tagsEnd_finishJob hf (sameClaims_of_eq rfl rfl rfl rfl rfl rfl) .ok bytes⟩
  | pageWriteDone =>
    rcases exec_pageWriteDone_cases ht with rfl | ⟨f, hf, _, rfl⟩
    · exact hsame
    · exact ⟨_, _, sameTags_progress hf rfl⟩
  | pollTimerExpiry =>
    rcases exec_pollTimerExpiry_cases ht with rfl | ⟨f, hf, _, rfl⟩
    · exact hsame
    · exact ⟨_, _, sameTags_progress hf rfl⟩
  | pollDone acked =>
    rcases exec_pollDone_cases ht with rfl | ⟨f, n, off, data, hf, _, _, rfl⟩
    · exact hsame
    · exact hbus (tagsEnd_pollEnd hf n off acked)
  | readBackDone bytes =>
    rcases exec_readBackDone_cases ht with rfl | ⟨f, n, off, data, hf, _, rfl⟩
    · exact hsame
    · exact ⟨_, _, tagsEnd_readBackEnd hf n off data bytes⟩
  | userWriteAbandonEnd =>
    rcases exec_userWriteAbandonEnd_cases ht with rfl | ⟨f, hf, ha, rfl⟩
    · exact hsame
    · exact ⟨_, _, tagsEnd_untagged hf ((h.flight f hf).untagged ha)⟩
  | resolutionComplete =>
    rcases exec_resolutionComplete_of_building ht with rfl | ⟨w, e, tag, sn, _, he, hst, rfl⟩
    · exact hsame
    · exact ⟨_, _, tagsEnd_resolutionEnd h.table w he hst⟩
  | characterDropped =>
    cases ht
    exact hsame
  | _ => exact nomatch hframe

/-! ### The transmitter -/

/-- The reply whose sending starts gives its place free (R161). -/
theorem LinkOk.exec_replySendStart {s t : State} (h : LinkOk s) (ht : exec .replySendStart s = .next t) : LinkOk t := by
  rw [exec, execReplySendStart] at ht
  split at ht
  next r rest _ htx =>
    cases ht
    refine h.ends (tags := []) (c := .busJob) (k := 0) ⟨⟨.ok, [], rfl⟩, ?_, rfl, ?_, fun _ _ => List.Perm.refl _⟩ h.places_le
    · simp only [places, htx, List.length_cons]
      omega
    · rw [List.append_nil]
      exact List.Perm.refl _
  next => exact Host.Outcome.next.inj ht ▸ h
  next => exact Host.Outcome.next.inj ht ▸ h

theorem linkOk_lineReset (pending : List Instr) : LinkOk { State.reset with pending := pending } :=
  linkOk_of_empty rfl (Nat.zero_le 8) rfl rfl

theorem LinkOk.exec_replySent {s t : State} (h : LinkOk s) (ht : exec .replySent s = .next t) : LinkOk t := by
  rcases exec_replySent_cases ht with rfl | rfl | ⟨_, rfl⟩
  · exact h
  · exact h.congr (sameClaims_of_eq rfl rfl rfl rfl rfl rfl)
  · exact linkOk_of_empty rfl (Nat.zero_le 8) rfl rfl

/-! ### Every command -/

/-- Out of a line reset every command keeps places and claims. -/
theorem Inv.linkOk_exec {s t : State} (h : Inv s) (hrun : s.resetAsserted = false) {c : Instr} (ht : exec c s = .next t) :
    LinkOk t := by
  have hs := h.claimsKept hrun
  cases hframe : requestFrame c with
  | some frame => exact (framesKeep_claimsKept.exec_request hframe hs ht).link
  | none =>
    by_cases hreset : c = .lineReset
    · subst hreset
      cases ht
      exact linkOk_lineReset _
    by_cases hgap : c = .gapExpiry
    · exact (framesKeep_claimsKept.exec_gapExpiry hs (hgap ▸ ht)).link
    by_cases hbyte : ∃ b, c = .byteReceived b
    · obtain ⟨b, rfl⟩ := hbyte
      exact (framesKeep_claimsKept.exec_byteReceived hs ht).link
    by_cases hstart : c = .replySendStart
    · exact hs.link.exec_replySendStart (hstart ▸ ht)
    by_cases hsent : c = .replySent
    · exact hs.link.exec_replySent (hsent ▸ ht)
    obtain ⟨_, _, hended⟩ := h.exec_tagsEnd hrun ⟨hframe, hreset, fun b hb => hbyte ⟨b, hb⟩, hgap, hstart, hsent⟩ ht
    exact hs.link.ends hended hs.link.places_le

theorem linkOk_exec_in_reset (pending : List Instr) {c : Instr} {t : State}
    (ht : exec c { State.reset with pending := pending } = .next t) : LinkOk t := by
  by_cases hrelease : ∃ rate pres, c = .lineResetRelease rate pres
  · obtain ⟨rate, pres, rfl⟩ := hrelease
    cases ht
    exact linkOk_of_empty rfl (Nat.zero_le 8) rfl rfl
  · rw [exec_in_reset _ fun rate pres hc => hrelease ⟨rate, pres, hc⟩] at ht
    cases ht
    exact linkOk_lineReset _

/-- Settles O54: out of a line reset command by command, as claims end, move and join; in it nothing is outstanding. -/
theorem stepKeepsPlacesAndClaims : Obligations.StepKeepsPlacesAndClaims := by
  intro s t h ht
  rcases step_cases ht with rfl | ⟨c, rest, hexec⟩
  · exact ⟨h.link, h.claims⟩
  · have hpending := h.withPending rest
    refine linkOk_iff.mp ?_
    cases hrun : s.resetAsserted with
    | false => exact hpending.linkOk_exec hrun hexec
    | true =>
      rw [hpending.eq_reset hrun] at hexec
      exact linkOk_exec_in_reset _ hexec

end Sys2Proof.Machine
end

section
/-! RESET (R90, R91, R164, R165): the reset at the bus by the job in flight, and both scopes around it. -/

namespace Sys2Proof.Machine

/-! ### The bus at a reset -/

/-- A job in flight without its host tags. -/
def bareFlight (f : InFlight) : InFlight := { f with job := withoutTags f.job }

/-- The queue at a reset: the presence scans, without tags (R90). -/
def scansKept (s : State) : State := { s with jobs := (s.jobs.filter Job.presence).map withoutTags }

/-- R91: a reset stops the job in flight. -/
def resetStops (f : InFlight) : Prop := isReading f.job = true ∧ ¬ (isScan f.job = true ∧ f.job.presence = true)

theorem sessionBus_idle {s : State} (hf : s.inFlight = none) : sessionBus s = scansKept s := by
  unfold sessionBus
  dsimp only
  split
  next => rfl
  next h => exact nomatch hf.symm.trans h

theorem sessionBus_goes {s : State} {f : InFlight} (hf : s.inFlight = some f) (hgoes : ¬ resetStops f) :
    sessionBus s = { scansKept s with inFlight := some (bareFlight f) } := by
  simp only [sessionBus, hf]
  split
  next hwork =>
    split
    next => rfl
    next hpresence => exact absurd ⟨by rw [isReading, hwork], fun h => hpresence h.2⟩ hgoes
  next hwork => exact absurd ⟨by rw [isReading, hwork], fun h => by simp [isScan, hwork] at h⟩ hgoes
  next => rfl
  next => rfl

theorem sessionBus_stops {s : State} {f : InFlight} (hf : s.inFlight = some f) (hstops : resetStops f) :
    sessionBus s = markToStop (bareFlight f) (scansKept s) := by
  obtain ⟨hreading, hclaim⟩ := hstops
  simp only [sessionBus, hf]
  split
  next hwork =>
    split
    next hpresence => exact absurd ⟨by rw [isScan, hwork], hpresence⟩ hclaim
    next => rfl
  next => rfl
  next hwork => simp [isReading, hwork] at hreading
  next hwork => simp [isReading, hwork] at hreading

/-! ### The other blocks -/

/-- The change neither reads nor writes what the bus holds. -/
structure BesideBus (change : State → State) : Prop where
  flight : ∀ (s : State) (x : Option InFlight), change { s with inFlight := x } = { change s with inFlight := x }
  jobs : ∀ s : State, (change s).jobs = s.jobs
  idle : ∀ s : State, change { s with inFlight := none, bus := .idle } = { change s with inFlight := none, bus := .idle }
  start : ∀ (s : State) (j : Job) (rest : List Job),
    change (startJob j false { s with inFlight := none, bus := .idle, jobs := rest }) =
      startJob j false { change s with inFlight := none, bus := .idle, jobs := rest }

theorem BesideBus.finish {change : State → State} (h : BesideBus change) (s : State) :
    change (finishJob s) = finishJob (change s) := by
  have hsame := h.jobs s
  cases hjobs : s.jobs with
  | nil => rw [finishJob_no_job hjobs, finishJob_no_job (hsame.trans hjobs), h.idle]
  | cons j rest => rw [finishJob_job hjobs, finishJob_job (hsame.trans hjobs), h.start]

/-- A reset, from the state `t` that all blocks but the job in flight have after it. -/
theorem BesideBus.sessionBus {change : State → State} (h : BesideBus change) {s t : State} (ht : change (scansKept s) = t) :
    (s.inFlight = none → change (sessionBus s) = t) ∧
    ∀ f, s.inFlight = some f →
      (isReading f.job = false ∨ isScan f.job = true ∧ f.job.presence = true →
        change (sessionBus s) = { t with inFlight := some (bareFlight f) }) ∧
      (isReading f.job = true → ¬ (isScan f.job = true ∧ f.job.presence = true) → f.activity ≠ .retryWait →
        change (sessionBus s) = { t with inFlight := some { bareFlight f with stopMark := true } }) ∧
      (isReading f.job = true → ¬ (isScan f.job = true ∧ f.job.presence = true) → f.activity = .retryWait →
        change (sessionBus s) = finishJob t) := by
  subst ht
  refine ⟨fun hf => congrArg change (sessionBus_idle hf), fun f hf => ⟨fun hgoes => ?_, fun hreading hclaim ha => ?_,
    fun hreading hclaim ha => ?_⟩⟩
  · rw [sessionBus_goes hf fun hstops => hgoes.elim (fun hr => Bool.false_ne_true (hr.symm.trans hstops.1)) hstops.2]
    exact h.flight ..
  · rw [sessionBus_stops hf ⟨hreading, hclaim⟩, markToStop, if_neg (c := (bareFlight f).activity = .retryWait) ha]
    exact h.flight ..
  · rw [sessionBus_stops hf ⟨hreading, hclaim⟩, markToStop_untagged rfl,
      if_pos (c := (bareFlight f).activity = .retryWait) ha]
    exact h.finish _

/-- The session reset of Profile Table, Slot Table and Notice Queue. -/
def sessionBeside (s : State) : State := sessionNotices (sessionSlots (sessionProfiles s))

theorem besideBus_session : BesideBus sessionBeside := ⟨fun _ _ => rfl, fun _ => rfl, fun _ => rfl, fun _ _ _ => rfl⟩

/-- The full reset's beginning, but for the bus. -/
def fullBeside (s : State) : State := beginClosing (freeUnfinished s)

theorem besideBus_full : BesideBus fullBeside := ⟨fun _ _ => rfl, fun _ => rfl, fun _ => rfl, fun _ _ _ => rfl⟩

/-! ### The command -/

theorem exec_resetSession_taken {tag : Byte} {s : State} (h : Taken s tag 0x33) (p : List Byte) :
    exec (.resetSession tag p) s = .next (ownReset tag p s) :=
  congrArg Host.Outcome.next (acceptFrame_taken (kind := kindReset) (ownReset tag p) h (by decide))

theorem exec_resetFull_taken {tag : Byte} {s : State} (h : Taken s tag 0x33) (p : List Byte) :
    exec (.resetFull tag p) s = .next (ownReset tag p s) :=
  congrArg Host.Outcome.next (acceptFrame_taken (kind := kindReset) (ownReset tag p) h (by decide))

theorem scopeArg_malformed {p : List Byte} (hsession : p ≠ [0]) (hfull : p ≠ [1]) : scopeArg p = none := by
  unfold scopeArg
  split
  next sc =>
    unfold boolArg
    split
    next hzero => exact absurd (congrArg List.singleton (BitVec.eq_of_toNat_eq (y := 0#8) hzero)) hsession
    next hone => exact absurd (congrArg List.singleton (BitVec.eq_of_toNat_eq (y := 1#8) hone)) hfull
    next => rfl
  next => rfl

theorem ownReset_malformed {p : List Byte} (hsession : p ≠ [0]) (hfull : p ≠ [1]) (tag : Byte) (s : State) :
    ownReset tag p s = withReply tag 0x33 .badArgument [] s := by
  rw [ownReset, scopeArg_malformed hsession hfull]
  rfl

/-- The slots after a session reset, by whether they had overrides (R64). -/
theorem sessionSlots_eq (s : State) :
    sessionSlots s = { s with slots := Eight.ofFn fun n =>
      if (s.slots.get n).overrides = [] then s.slots.get n
      else { s.slots.get n with overrides := [], gen := (s.slots.get n).gen + 1 } } := by
  simp only [sessionSlots, List.isEmpty_iff]

/-- Settles O51: the other blocks do not read what the bus holds, so that the reset at the bus can come last. -/
theorem sessionResetKeepsTheModules : Obligations.SessionResetKeepsTheModules := by
  intro tag s htaken run t bare
  have hrun : run = .next (sessionBeside (sessionBus (answer tag kindReset .ok [] (abortAll s)))) :=
    exec_resetSession_taken htaken [0]
  have ht : sessionBeside (scansKept (answer tag kindReset .ok [] (abortAll s))) = t := by
    rw [sessionBeside, sessionSlots_eq]
    rfl
  obtain ⟨hidle, hflight⟩ := besideBus_session.sessionBus ht
  refine ⟨fun hf => hrun.trans (congrArg Host.Outcome.next (hidle hf)), fun f hf => ?_⟩
  obtain ⟨hgoes, hmarked, hended⟩ := hflight f hf
  exact ⟨fun h => hrun.trans (congrArg Host.Outcome.next (hgoes h)),
    fun h h' h'' => hrun.trans (congrArg Host.Outcome.next (hmarked h h' h'')),
    fun h h' h'' => hrun.trans (congrArg Host.Outcome.next (hended h h' h''))⟩

/-- Settles O52: as the session reset, with CLOSING beside the bus. -/
theorem fullResetBeginsClosing : Obligations.FullResetBeginsClosing := by
  intro tag s htaken run t bare
  have hrun : run = .next (fullBeside (sessionBus (answer tag kindReset .ok [] (abortAll s)))) :=
    exec_resetFull_taken htaken [1]
  have ht : fullBeside (scansKept (answer tag kindReset .ok [] (abortAll s))) = t := rfl
  obtain ⟨hidle, hflight⟩ := besideBus_full.sessionBus ht
  refine ⟨fun hf => hrun.trans (congrArg Host.Outcome.next (hidle hf)), fun f hf => ?_, fun p hsession hfull => ?_⟩
  · obtain ⟨hgoes, hmarked, hended⟩ := hflight f hf
    exact ⟨fun h => hrun.trans (congrArg Host.Outcome.next (hgoes h)),
      fun h h' h'' => hrun.trans (congrArg Host.Outcome.next (hmarked h h' h'')),
      fun h h' h'' => hrun.trans (congrArg Host.Outcome.next (hended h h' h''))⟩
  · rw [exec_resetSession_taken htaken, exec_resetFull_taken htaken, ownReset_malformed hsession hfull]
    exact ⟨rfl, rfl⟩

end Sys2Proof.Machine
end

section
/-! Acceptance in its order (R156, R157), and the transmitter (R150, R161, R165). -/

namespace Sys2Proof.Machine

/-! ### Acceptance -/

theorem linkOpen_iff {s : State} : linkOpen s = true ↔ s.resetAsserted = false ∧ s.closing = false := by
  simp [linkOpen]

theorem linkOpen_eq_false_iff {s : State} : linkOpen s = false ↔ s.closing = true ∨ s.resetAsserted = true := by
  rw [linkOpen, Bool.and_eq_false_iff, Bool.not_eq_false', Bool.not_eq_false', or_comm]

theorem freePlaces_eq_zero_iff {s : State} : freePlaces s = 0 ↔ 8 ≤ places s := Nat.sub_eq_zero_iff_le

theorem isOutstanding_iff {s : State} {tag : Byte} : isOutstanding s tag = true ↔ ∃ o ∈ s.inbox, o.tag = tag := by
  simp [isOutstanding]

section Refusals
variable {s : State} (hopen : linkOpen s = true) (hplace : places s < 8) {tag : Byte} (kind : Byte)
  (owner : State → State)
include hopen hplace

/-- With a place free acceptance goes on to the checks of R157. -/
theorem acceptFrame_checks : acceptFrame tag kind owner s =
    if tag = 0 then refuse tag kind .badArgument s
    else if isOutstanding s tag then refuse tag kind .duplicateTag s
    else if !requestKinds.contains kind then refuse tag kind .unknownKind s
    else if Config.maxOutstanding ≤ s.inbox.length && !passesFull.contains kind then refuse tag kind .full s
    else owner s := by
  have hfree : ¬ freePlaces s = 0 := fun hnone => Nat.not_le.mpr hplace (freePlaces_eq_zero_iff.mp hnone)
  rw [acceptFrame, hopen, if_neg hfree]
  rfl

theorem acceptFrame_zero (htag : tag = 0) : acceptFrame tag kind owner s = withReply tag kind .badArgument [] s := by
  rw [acceptFrame_checks hopen hplace, if_pos htag, refuse_eq]

theorem acceptFrame_duplicate (htag : tag ≠ 0) (hheld : ∃ o ∈ s.inbox, o.tag = tag) :
    acceptFrame tag kind owner s = withReply tag kind .duplicateTag [] s := by
  rw [acceptFrame_checks hopen hplace, if_neg htag, if_pos (isOutstanding_iff.mpr hheld), refuse_eq]

section Fresh
variable (htag : tag ≠ 0) (hfresh : ∀ o ∈ s.inbox, o.tag ≠ tag)
include htag hfresh

/-- A tag that is neither 0 nor outstanding leaves the checks of the kind. -/
theorem acceptFrame_fresh : acceptFrame tag kind owner s =
    if !requestKinds.contains kind then refuse tag kind .unknownKind s
    else if Config.maxOutstanding ≤ s.inbox.length && !passesFull.contains kind then refuse tag kind .full s
    else owner s := by
  have hnew : ¬ isOutstanding s tag = true := fun hheld => by
    obtain ⟨o, ho, hsame⟩ := isOutstanding_iff.mp hheld
    exact hfresh o ho hsame
  rw [acceptFrame_checks hopen hplace, if_neg htag, if_neg hnew]

theorem acceptFrame_unknown {kind : Byte} (hkind : kind ∉ requestKinds) :
    acceptFrame tag kind owner s = withReply tag kind .unknownKind [] s := by
  rw [acceptFrame_fresh hopen hplace kind owner htag hfresh, if_pos (by simpa using hkind), refuse_eq]

theorem acceptFrame_full {kind : Byte} (hkind : kind ∈ requestKinds) (hfour : 4 ≤ s.inbox.length)
    (hwaits : kind ∉ passesFull) : acceptFrame tag kind owner s = withReply tag kind .full [] s := by
  rw [acceptFrame_fresh hopen hplace kind owner htag hfresh, if_neg (by simpa using hkind),
    if_pos (by simp [Config.maxOutstanding, hwaits, hfour]), refuse_eq]

end Fresh
end Refusals

/-- Settles O28: check by check in the order of R157, and row by row for the KIND bytes of R204. -/
theorem acceptanceInOrder : Obligations.AcceptanceInOrder := by
  refine ⟨fun tag kind payload s hrun hclosing => ?_, fun tag kind payload s hclosed => ?_, fun tag p s => ?_⟩
  · have hopen := linkOpen_iff.mpr ⟨hrun, hclosing⟩
    refine ⟨fun hnone => acceptFrame_overrun _ _ _ hopen (freePlaces_eq_zero_iff.mpr hnone), fun hplace =>
      ⟨acceptFrame_zero hopen hplace _ _, acceptFrame_duplicate hopen hplace _ _, fun htag hfresh hkind => ?_,
        fun htag hfresh hkind hfour hwaits => acceptFrame_full hopen hplace _ htag hfresh hkind hfour hwaits,
        fun htaken hkind => acceptFrame_taken _ htaken hkind⟩⟩
    exact congrArg Host.Outcome.next (acceptFrame_unknown hopen hplace _ htag hfresh hkind)
  · exact acceptFrame_closed _ _ _ (linkOpen_eq_false_iff.mpr hclosed)
  · refine ⟨?_, ?_, ?_, ?_, ?_, ?_, ?_, ?_, ?_, ?_, ?_, ?_, ?_, ?_, ?_, ?_, ?_, ?_, ?_, ?_, ?_, ?_, ?_, ?_, ?_,
      fun kind => ?_⟩
    all_goals exact exec_request rfl s

/-! ### The transmitter -/

theorem exec_replySendStart_idle {r : Reply} {rest : List Reply} {s : State} (hidle : s.sending = none)
    (htx : s.tx = r :: rest) : exec .replySendStart s = .next { s with sending := some r, tx := rest } := by
  simp [exec, execReplySendStart, hidle, htx]

theorem exec_replySent_sending {r : Reply} {s : State} (hsending : s.sending = some r) :
    exec .replySent s = .next (replyLeft s) := by
  simp [exec, execReplySent, hsending]

/-- A slot sampled from its reset values settles where its line is low (R43, R63). -/
theorem slots_fullReset (s : State) : (fullReset s).slots = Eight.ofFn fun n =>
    if s.pres.get n = true then slotReset else { slotReset with state := .settling, settle := some 40 } := by
  simp only [fullReset, samplePresence, reset_slots_get]
  refine congrArg Eight.ofFn (funext fun n => ?_)
  cases s.pres.get n <;> rfl

/-- Settles O33: the levels from the frame's bytes, and the last REPLY_SENT of CLOSING as the full reset. -/
theorem transmitterSendsInOrder : Obligations.TransmitterSendsInOrder := by
  refine ⟨fun r rest s => exec_replySendStart_idle, fun s => rfl, fun s => txdLevels_idle, fun r s hsending =>
    ⟨fun hrun => ?_, fun hgoes => ?_, fun hclosing hempty => ?_⟩⟩
  · rw [txdLevels_sending hsending hrun]
    exact congrArg (List.flatMap · _) (funext characterLevels_eq)
  · rw [exec_replySent_sending hsending, replyLeft, if_neg]
    rintro ⟨hclosing, hempty⟩
    exact hgoes.elim (fun h => Bool.false_ne_true (h.symm.trans hclosing)) fun h => h hempty
  · refine ⟨fullReset { s with sending := none }, ?_, busLines_quiet rfl (fun h => nomatch h), rfl, rfl, ?_⟩
    · rw [exec_replySent_sending hsending, replyLeft, if_pos ⟨hclosing, hempty⟩]
    · exact congrArg (fun slots => { fullReset { s with sending := none } with slots := slots }) (slots_fullReset _)

end Sys2Proof.Machine
end

section
/-! The receiver (R150 to R155): the pass over bytes, those of a discarded frame again, without its bound; then a frame
whose CRC is wrong, the phases, and a whole frame. -/

namespace Sys2Proof.Machine

/-! ### What one byte leaves to be taken -/

/-- The bytes the receiver holds of a frame in progress, START among them. -/
def heldBytes (s : State) : Nat :=
  match s.rx.phase with
  | .hunt => 0
  | .length => s.rx.buffer.length + 1
  | .body => s.rx.buffer.length + 1
  | .check => s.rx.buffer.length + 1

theorem heldBytes_hunt {s : State} (h : s.rx.phase = .hunt) : heldBytes s = 0 := by rw [heldBytes, h]

theorem heldBytes_le (s : State) : heldBytes s ≤ s.rx.buffer.length + 1 := by
  unfold heldBytes
  split <;> omega

theorem heldBytes_frame {s : State} (h : s.rx.phase ≠ .hunt) : heldBytes s = s.rx.buffer.length + 1 := by
  unfold heldBytes
  split
  next hhunt => exact absurd hhunt h
  all_goals rfl

/-- A frame of an idle receiver leaves it idle, whatever its owner does. -/
theorem takeFrame_idle (tag kind : Byte) (payload : List Byte) {s : State} (h : s.rx = receiverIdle) :
    (takeFrame tag kind payload s).rx = receiverIdle := by
  rcases takeFrame_cases tag kind payload s with he | he | ⟨_, st, he⟩ | ⟨_, he⟩
  · rwa [he]
  · rwa [he, raise_rx]
  · rw [he]
    exact h
  · rw [he]
    exact (ownerOf_does tag payload s kind).rx.elim (·.trans h) id

theorem handGood_idle (bytes : List Byte) {s : State} (h : s.rx = receiverIdle) : (handGood bytes s).rx = receiverIdle := by
  unfold handGood
  split
  next => exact takeFrame_idle _ _ _ h
  next => exact h

theorem discardFrame_rx (c : DropCause) (s : State) : (discardFrame c s).rx = receiverIdle := raise_rx _ _

/-- A byte makes no more bytes than itself and those held, and a discard loses START (R155). -/
theorem takeByte_bytes (b : Byte) (s : State) :
    (takeByte b s).2 = [] ∧ heldBytes (takeByte b s).1 ≤ heldBytes s + 1 ∨
      (takeByte b s).2.length + heldBytes (takeByte b s).1 ≤ heldBytes s := by
  have hidle {t : State} (ht : t.rx = receiverIdle) : heldBytes t = 0 := heldBytes_hunt (by rw [ht]; rfl)
  unfold takeByte
  split
  next hphase =>
    dsimp only
    split
    next => exact .inl ⟨rfl, Nat.le_add_left 1 _⟩
    next => exact .inl ⟨rfl, Nat.le_succ _⟩
  next hphase =>
    have hheld := heldBytes_frame (s := s) (by rw [hphase]; exact fun h => nomatch h)
    split
    next =>
      refine .inl ⟨rfl, (heldBytes_le _).trans ?_⟩
      rw [hheld]
      exact Nat.le_add_left 2 _
    next =>
      refine .inr ?_
      rw [hidle (discardFrame_rx ..), hheld]
      exact Nat.le_add_left 1 _
  next hphase =>
    have hheld := heldBytes_frame (s := s) (by rw [hphase]; exact fun h => nomatch h)
    refine .inl ⟨rfl, (heldBytes_le _).trans ?_⟩
    rw [hheld, rxBody]
    split <;> simp
  next hphase =>
    have hheld := heldBytes_frame (s := s) (by rw [hphase]; exact fun h => nomatch h)
    split
    next =>
      unfold judgeFrame
      split
      next => exact .inl ⟨rfl, by rw [hidle (handGood_idle _ rfl)]; exact Nat.zero_le _⟩
      next =>
        refine .inr ?_
        rw [hidle (discardFrame_rx ..), hheld]
        simp
    next =>
      refine .inl ⟨rfl, (heldBytes_le _).trans ?_⟩
      rw [hheld, rxCheck]
      simp

/-! ### The pass without its bound -/

/-- A bound on the bytes a pass takes: each discard leaves one byte less, each other byte leaves the pass. -/
def passCost (bs : List Byte) (s : State) : Nat :=
  (bs.length + heldBytes s) * (bs.length + heldBytes s + 1) + bs.length

theorem passCost_take (b : Byte) (bs : List Byte) (s : State) :
    passCost ((takeByte b s).2 ++ bs) (takeByte b s).1 < passCost (b :: bs) s := by
  simp only [passCost, List.length_append, List.length_cons]
  rcases takeByte_bytes b s with ⟨hnone, hheld⟩ | hless
  · rw [hnone, List.length_nil, Nat.zero_add]
    have htotal : bs.length + heldBytes (takeByte b s).1 ≤ bs.length + 1 + heldBytes s := by omega
    exact Nat.add_lt_add_of_le_of_lt (Nat.mul_le_mul htotal (Nat.succ_le_succ htotal)) (Nat.lt_succ_self _)
  · have htotal : (takeByte b s).2.length + bs.length + heldBytes (takeByte b s).1 ≤ bs.length + heldBytes s := by omega
    have hproduct := Nat.mul_le_mul htotal (Nat.add_le_add_right htotal 1)
    have hsquare : (bs.length + 1 + heldBytes s) * (bs.length + 1 + heldBytes s + 1) =
        (bs.length + heldBytes s) * (bs.length + heldBytes s + 1) + 2 * (bs.length + heldBytes s + 1) := by ring
    omega

/-- The bytes taken one after another, those of a discarded frame again, until none is left. -/
def takePass (bs : List Byte) (s : State) : State := takeBytes (passCost bs s) bs s

/-- Two bounds that are large enough give the same pass. -/
theorem takeBytes_of_le {k l : Nat} {bs : List Byte} {s : State} (hk : passCost bs s ≤ k) (hl : passCost bs s ≤ l) :
    takeBytes k bs s = takeBytes l bs s := by
  induction k generalizing l bs s with
  | zero =>
    have hnil : bs = [] := List.length_eq_zero_iff.mp (by unfold passCost at hk; omega)
    subst hnil
    cases l <;> rfl
  | succ k ih =>
    cases bs with
    | nil => cases l <;> rfl
    | cons b bs =>
      have hless := passCost_take b bs s
      cases l with
      | zero => omega
      | succ l =>
        rw [takeBytes, takeBytes, ih (l := l) (by omega) (by omega)]

theorem takeBytes_eq_takePass {k : Nat} {bs : List Byte} {s : State} (hk : passCost bs s ≤ k) :
    takeBytes k bs s = takePass bs s := takeBytes_of_le hk le_rfl

theorem takePass_nil (s : State) : takePass [] s = s := by
  rw [takePass]
  cases passCost [] s <;> rfl

theorem takePass_closed {s : State} (h : linkOpen s = false) (bs : List Byte) : takePass bs s = s := by
  cases bs with
  | nil => exact takePass_nil s
  | cons b bs =>
    rw [takePass]
    cases passCost (b :: bs) s with
    | zero => rfl
    | succ k => rw [takeBytes, if_neg (Bool.eq_false_iff.mp h)]

theorem takePass_cons {s : State} (h : linkOpen s = true) (b : Byte) (bs : List Byte) :
    takePass (b :: bs) s = takePass ((takeByte b s).2 ++ bs) (takeByte b s).1 := by
  have hless := passCost_take b bs s
  rw [takePass]
  cases hcost : passCost (b :: bs) s with
  | zero => omega
  | succ k =>
    rw [takeBytes, if_pos h]
    exact takeBytes_eq_takePass (by omega)

/-- No byte is lost: those behind are taken where the pass over those in front has ended. -/
theorem takePass_append (bs cs : List Byte) (s : State) : takePass (bs ++ cs) s = takePass cs (takePass bs s) := by
  cases hopen : linkOpen s with
  | false => rw [takePass_closed hopen, takePass_closed hopen, takePass_closed hopen]
  | true =>
    cases bs with
    | nil => rw [takePass_nil, List.nil_append]
    | cons b bs =>
      have hless := passCost_take b bs s
      rw [List.cons_append, takePass_cons hopen, takePass_cons hopen, ← List.append_assoc]
      exact takePass_append ((takeByte b s).2 ++ bs) cs (takeByte b s).1
termination_by passCost bs s

/-- The bound of BYTE_RECEIVED is large enough, whatever the receiver holds. -/
theorem exec_byteReceived_eq (b : Byte) (s : State) : exec (.byteReceived b) s = .next (takePass [b] s) := by
  refine congrArg Host.Outcome.next (takeBytes_eq_takePass ?_)
  have hheld : [b].length + heldBytes s ≤ s.rx.buffer.length + 2 := by
    have := heldBytes_le s
    rw [List.length_singleton]
    omega
  have hproduct := Nat.mul_le_mul hheld (Nat.succ_le_succ hheld)
  have hsquare : (s.rx.buffer.length + 3) * (s.rx.buffer.length + 3) =
      (s.rx.buffer.length + 2) * (s.rx.buffer.length + 2).succ + (s.rx.buffer.length + 3) := by
    rw [Nat.succ_eq_add_one]
    ring
  rw [passCost, passBound, hsquare]
  exact Nat.add_le_add hproduct (by rw [List.length_singleton]; omega)

theorem feedBytes_eq (bs : List Byte) (s : State) : feedBytes bs s = .next (takePass bs s) := by
  induction bs generalizing s with
  | nil => rw [takePass_nil, feedBytes]
  | cons b bs ih =>
    rw [feedBytes, exec_byteReceived_eq]
    exact (ih _).trans (congrArg Host.Outcome.next (takePass_append [b] bs s).symm)

/-! ### A wrong CRC -/

theorem takeByte_lastCheck {s : State} (hphase : s.rx.phase = .check) (hlast : s.rx.expected ≤ 1) (b : Byte) :
    takeByte b s = judgeFrame (s.rx.buffer ++ [b]) s := by
  simp only [takeByte, hphase, if_pos hlast]

/-- Settles O32: the pass goes on with the frame's bytes from LEN on, and needs no bound. -/
theorem wrongCheckTakesTheBytesAgain : Obligations.WrongCheckTakesTheBytesAgain := by
  intro b s hrun hclosing hphase hlast hwrong
  have htaken : takeByte b s = (discardFrame .check s, s.rx.buffer ++ [b]) := by
    rw [takeByte_lastCheck hphase hlast.le, judgeFrame, if_neg (Bool.eq_false_iff.mp hwrong)]
  rw [exec_byteReceived_eq, takePass_cons (linkOpen_iff.mpr ⟨hrun, hclosing⟩), htaken, feedBytes_eq, List.append_nil]
  rfl

/-! ### The phases -/

/-- A byte after which none is to be taken again. -/
theorem takePass_of_kept {b : Byte} {s t : State} (hopen : linkOpen s = true) (ht : takeByte b s = (t, []))
    (bs : List Byte) : takePass (b :: bs) s = takePass bs t := by
  rw [takePass_cons hopen, ht, List.nil_append]

theorem exec_byteReceived_of_kept {b : Byte} {s t : State} (hopen : linkOpen s = true) (ht : takeByte b s = (t, [])) :
    exec (.byteReceived b) s = .next t := by
  rw [exec_byteReceived_eq, takePass_of_kept hopen ht, takePass_nil]

theorem takeByte_hunt {s : State} (h : s.rx.phase = .hunt) (b : Byte) :
    takeByte b s = (if b = startByte then { s with rx := rxOpened } else s, []) := by
  simp only [takeByte, h]

theorem takeByte_length {s : State} (h : s.rx.phase = .length) (b : Byte) :
    takeByte b s = if lengthOk b then ({ s with rx := rxLength b }, []) else (discardFrame .length s, [b]) := by
  simp only [takeByte, h]

theorem takeByte_body {s : State} (h : s.rx.phase = .body) (b : Byte) :
    takeByte b s = ({ s with rx := rxBody s.rx b }, []) := by
  simp only [takeByte, h]

theorem takeByte_firstCheck {s : State} (h : s.rx.phase = .check) (hmore : ¬ s.rx.expected ≤ 1) (b : Byte) :
    takeByte b s = ({ s with rx := rxCheck s.rx b }, []) := by
  simp only [takeByte, h, if_neg hmore]

theorem takeByte_rightCheck {s : State} (h : s.rx.phase = .check) (hlast : s.rx.expected ≤ 1) {b : Byte}
    (hright : checkOk (s.rx.buffer ++ [b]) = true) :
    takeByte b s = (handGood (s.rx.buffer ++ [b]) { s with rx := receiverIdle }, []) := by
  rw [takeByte_lastCheck h hlast, judgeFrame, if_pos hright]

theorem lengthOk_iff {b : Byte} : lengthOk b = true ↔ 2 ≤ b.toNat ∧ b.toNat ≤ 122 := by simp [lengthOk]

/-- A LEN out of range is taken again where the receiver hunts (R153). -/
theorem exec_byteReceived_badLength {s : State} (hopen : linkOpen s = true) (h : s.rx.phase = .length) {b : Byte}
    (hb : lengthOk b = false) : exec (.byteReceived b) s =
      .next (if b = startByte then { discardFrame .length s with rx := rxOpened } else discardFrame .length s) := by
  have hagain : linkOpen (discardFrame .length s) = true := by
    rw [linkOpen, discardFrame, raise_resetAsserted, raise_closing]
    exact hopen
  have hhunt : (discardFrame .length s).rx.phase = .hunt := by rw [discardFrame_rx]; rfl
  rw [exec_byteReceived_eq, takePass_cons hopen, takeByte_length h, if_neg (Bool.eq_false_iff.mp hb)]
  exact congrArg Host.Outcome.next ((takePass_of_kept hagain (takeByte_hunt hhunt b) []).trans (takePass_nil _))

/-- Settles O31: the characters bit by bit, then the receiver phase by phase. -/
theorem receiverPhases : Obligations.ReceiverPhases := by
  refine ⟨fun b stop => ?_, fun s => rfl, fun b s hclosed => ?_, fun s hgap => ?_, fun b s hrun hclosing => ?_⟩
  · cases stop with
    | true => exact characterLevels_eq b ▸ characterEvent_characterLevels b
    | false => rfl
  · rw [exec_byteReceived_eq, takePass_closed (linkOpen_eq_false_iff.mpr hclosed)]
  · exact congrArg Host.Outcome.next (if_pos hgap)
  · have hopen : linkOpen s = true := linkOpen_iff.mpr ⟨hrun, hclosing⟩
    refine ⟨fun h => ?_, fun h htwo hmost => ?_, fun h hout => ?_, fun h hmore => ?_, fun h hlast => ?_, fun h htwo => ?_,
      fun h hlast hright => ?_⟩
    · exact exec_byteReceived_of_kept hopen (takeByte_hunt h b)
    · exact exec_byteReceived_of_kept hopen ((takeByte_length h b).trans (if_pos (lengthOk_iff.mpr ⟨htwo, hmost⟩)))
    · refine exec_byteReceived_badLength hopen h (Bool.eq_false_iff.mpr fun hok => ?_)
      obtain ⟨htwo, hmost⟩ := lengthOk_iff.mp hok
      omega
    · rw [exec_byteReceived_of_kept hopen (takeByte_body h b), rxBody, if_neg (Nat.not_le.mpr hmore)]
    · rw [exec_byteReceived_of_kept hopen (takeByte_body h b), rxBody, if_pos hlast.le]
    · exact exec_byteReceived_of_kept hopen (takeByte_firstCheck h (by omega) b)
    · exact exec_byteReceived_of_kept hopen (takeByte_rightCheck h hlast.le hright)

/-! ### A whole frame -/

/-- The body's bytes are placed one after another, whatever they are, until the CHECK bytes are awaited. -/
theorem takePass_body {body : List Byte} (hbody : body ≠ []) (bs buffer : List Byte) {s : State} (hopen : linkOpen s = true)
    (hrx : s.rx = { phase := .body, expected := body.length, buffer := buffer, gapRunning := true }) :
    takePass (body ++ bs) s = takePass bs { s with
      rx := { phase := .check, expected := 2, buffer := buffer ++ body, gapRunning := true } } := by
  induction body generalizing buffer s with
  | nil => exact absurd rfl hbody
  | cons b body ih =>
    rw [List.cons_append, takePass_of_kept hopen (takeByte_body (by rw [hrx]) b), hrx, rxBody]
    cases body with
    | nil => rfl
    | cons c body =>
      rw [if_neg (by simp)]
      have hrest := ih (List.cons_ne_nil c body) (buffer ++ [b]) (s := { s with
        rx := { phase := .body, expected := (c :: body).length, buffer := buffer ++ [b], gapRunning := true } }) hopen rfl
      rw [List.append_assoc] at hrest
      exact hrest

/-- The two bytes of a check value at the end of what it covers. -/
theorem checkOk_append (covered : List Byte) : checkOk (covered ++ le2 (crc covered).toNat) = true := by
  have hlength : (covered ++ le2 (crc covered).toNat).length - 2 = covered.length := by simp [le2]
  rw [checkOk, hlength, List.drop_left, List.take_left]
  exact beq_self_eq_true _

theorem handGood_frame (len tag kind : Byte) (payload : List Byte) (n : Nat) (s : State) :
    handGood (len :: tag :: kind :: payload ++ le2 n) s = takeFrame tag kind payload s := by
  have hlength : (payload ++ le2 n).length - 2 = payload.length := by simp [le2]
  have htake : (payload ++ le2 n).take ((payload ++ le2 n).length - 2) = payload := by rw [hlength, List.take_left]
  exact congrArg (takeFrame tag kind · s) htake

/-- The two CHECK bytes of a frame hand it to acceptance where they are right. -/
theorem takePass_check {buffer : List Byte} {n : Nat} {s : State} (hopen : linkOpen s = true)
    (hright : checkOk (buffer ++ le2 n) = true) :
    takePass (le2 n) { s with rx := { phase := .check, expected := 2, buffer := buffer, gapRunning := true } } =
      handGood (buffer ++ le2 n) { s with rx := receiverIdle } := by
  have hsplit : buffer ++ le2 n = buffer ++ [byte n] ++ [byte (n / 0x100)] := by simp [le2]
  rw [hsplit] at hright ⊢
  rw [le2, takePass_of_kept (by exact hopen) (takeByte_firstCheck rfl (by simp) _),
    takePass_of_kept (by exact hopen) (takeByte_rightCheck rfl (by simp [rxCheck]) hright), takePass_nil]
  rfl

/-- Settles O30: START, LEN, body and CHECK in turn. -/
theorem framedBytesMakeTheFrame : Obligations.FramedBytesMakeTheFrame := by
  intro tag kind payload s hlength hrun hclosing hrx
  have hopen : linkOpen s = true := linkOpen_iff.mpr ⟨hrun, hclosing⟩
  have hbyte : (byte (tag :: kind :: payload).length).toNat = (tag :: kind :: payload).length :=
    toNat_byte (by simp only [List.length_cons]; omega)
  have hlen : lengthOk (byte (tag :: kind :: payload).length) = true := by
    rw [lengthOk_iff, hbyte]
    simp only [List.length_cons]
    omega
  have hidle : { s with rx := receiverIdle } = s := by rw [receiverIdle, ← hrx]
  rw [feedBytes_eq, frame, List.append_assoc, List.cons_append, List.cons_append, List.nil_append,
    takePass_of_kept hopen (takeByte_hunt (by rw [hrx]) _), if_pos rfl,
    takePass_of_kept (by exact hopen) ((takeByte_length rfl _).trans (if_pos hlen)), rxLength, hbyte,
    takePass_body (List.cons_ne_nil _ _) _ _ (by exact hopen) rfl]
  refine congrArg Host.Outcome.next ((takePass_check (by exact hopen) (checkOk_append _)).trans ?_)
  exact (congrArg (handGood _) hidle).trans (handGood_frame _ tag kind payload _ s)

end Sys2Proof.Machine
end

section
/-! READ IMAGE, READ MODULE, WRITE USER, RESCAN and BUS RESET (R177 to R181, R189): the payloads they take, the pages a range
touches, and their checks in order. -/

namespace Sys2Proof.Machine

/-! ### Slot, offset and length (R177, R178) -/

/-- What READ IMAGE's and READ MODULE's payload must be, byte by byte. -/
theorem rangeArg_eq_some_iff {p : List Byte} {n : SlotNo} {off len : Nat} :
    rangeArg p = some (n, off, len) ↔ ∃ sl o l : Byte, p = [sl, o, l] ∧ slotArg sl = some n ∧ off = o.toNat ∧
      len = l.toNat ∧ 1 ≤ len ∧ len ≤ 64 ∧ off + len ≤ 256 := by
  refine ⟨fun h => ?_, fun ⟨sl, o, l, hp, hn, hoff, hlen, hrange⟩ => ?_⟩
  · unfold rangeArg at h
    split at h
    next sl o l =>
      split at h
      next hn =>
        obtain ⟨hrange, ⟨⟩⟩ := Option.ite_none_right_eq_some.mp h
        exact ⟨sl, o, l, rfl, hn, rfl, rfl, hrange⟩
      next => exact nomatch h
    next => exact nomatch h
  · subst hp hoff hlen
    simp only [rangeArg, hn]
    exact if_pos hrange

theorem rangeArg_bytes (n : SlotNo) {off len : Byte} (hlow : 1 ≤ len.toNat) (hhigh : len.toNat ≤ 64)
    (hend : off.toNat + len.toNat ≤ 256) :
    rangeArg [BitVec.ofNat 8 n.val, off, len] = some (n, off.toNat, len.toNat) :=
  rangeArg_eq_some_iff.mpr ⟨_, off, len, rfl, slotArg_slot n, rfl, rfl, hlow, hhigh, hend⟩

theorem rangeArg_eq_none {p : List Byte}
    (hp : ∀ sl off len : Byte, p = [sl, off, len] →
      8 ≤ sl.toNat ∨ len = 0 ∨ 64 < len.toNat ∨ 256 < off.toNat + len.toNat) : rangeArg p = none := by
  refine Option.eq_none_iff_forall_ne_some.mpr fun ⟨n, off, len⟩ h => ?_
  obtain ⟨sl, o, l, hbytes, hn, rfl, rfl, hlow, hhigh, hend⟩ := rangeArg_eq_some_iff.mp h
  rcases hp sl o l hbytes with hsl | rfl | hlarge | hpast
  · exact absurd (slotArg_eq_some hn) (not_lt.mpr hsl)
  · exact absurd hlow (by decide)
  · omega
  · omega

/-! ### The pages a range touches (R177) -/

/-- Every page of a range is valid where the page of each of its offsets is. -/
theorem rangeValid_iff {c : ImageCopy} {off len : Nat} (hlen : 1 ≤ len) (hend : off + len ≤ 256) :
    rangeValid c off len = true ↔ ∀ a, off ≤ a → a < off + len → c.marks[a / 16]? = some true := by
  have hmark (p : Nat) : c.marks.getD p false = true ↔ c.marks[p]? = some true := by
    rw [List.getD_eq_getElem?_getD]
    cases c.marks[p]? <;> simp
  simp only [rangeValid, List.all_eq_true, List.mem_range, Bool.or_eq_true, decide_eq_true_eq, hmark]
  refine ⟨fun h a hlow hhigh => ?_, fun h p hp => ?_⟩
  · have hfirst : ¬ a / 16 < off / 16 := not_lt.mpr (Nat.div_le_div_right hlow)
    have hlast : ¬ (off + len - 1) / 16 < a / 16 := not_lt.mpr (Nat.div_le_div_right (by omega))
    exact ((h (a / 16) (by omega)).resolve_right hlast).resolve_right hfirst
  · by_cases hout : p < off / 16 ∨ (off + len - 1) / 16 < p
    · exact hout.elim (fun hfirst => .inl (.inr hfirst)) .inr
    · have hpage : max off (16 * p) / 16 = p := by omega
      exact .inl (.inl (hpage ▸ h (max off (16 * p)) (by omega) (by omega)))

theorem window_length {bs : List Byte} {off len : Nat} (h : off + len ≤ bs.length) : (window bs off len).length = len := by
  rw [window, List.length_take, List.length_drop]
  omega

theorem window_getElem? {bs : List Byte} {off len i : Nat} (hi : i < len) :
    (window bs off len)[i]? = bs[off + i]? := by
  rw [window, List.getElem?_take_of_lt hi, List.getElem?_drop]

/-! ### READ IMAGE (R177) -/

theorem exec_readImage_taken {tag : Byte} {s : State} (h : Taken s tag 0x12) (p : List Byte) :
    exec (.readImage tag p) s = .next (ownReadImage tag p s) :=
  congrArg Host.Outcome.next (acceptFrame_taken (kind := kindReadImage) (ownReadImage tag p) h (by decide))

section ReadImage
variable {tag : Byte} {payload : List Byte} {n : SlotNo} {off len : Nat} {s : State}

theorem ownReadImage_malformed (harg : rangeArg payload = none) :
    ownReadImage tag payload s = withReply tag 0x12 .badArgument [] s := by
  simp only [ownReadImage, harg]
  rfl

theorem ownReadImage_notCached (harg : rangeArg payload = some (n, off, len))
    (hbytes : imageRange (s.slots.get n) off len = none) :
    ownReadImage tag payload s = withReply tag 0x12 .notCached [] s := by
  simp only [ownReadImage, harg, hbytes]
  rfl

theorem ownReadImage_cached {bytes : List Byte} (harg : rangeArg payload = some (n, off, len))
    (hbytes : imageRange (s.slots.get n) off len = some bytes) :
    ownReadImage tag payload s = withReply tag 0x12 .ok bytes s := by
  simp only [ownReadImage, harg, hbytes]
  rfl

end ReadImage

theorem imageRange_of_none {r : Slot} (h : r.image = none) (off len : Nat) : imageRange r off len = none := by
  simp only [imageRange, h]

theorem imageRange_of_some {r : Slot} {c : ImageCopy} (h : r.image = some c) (off len : Nat) :
    imageRange r off len = if rangeValid c off len = true then some (window c.bytes off len) else none := by
  simp only [imageRange, h]

/-- Settles O39: the payload, the copy, then its pages. -/
theorem readImageFromTheCopy : Obligations.ReadImageFromTheCopy := by
  intro tag s htaken
  refine ⟨fun n off len hlow hhigh hend => ?_, fun p hp => ?_⟩
  · intro run
    have hrun : run = .next _ := exec_readImage_taken htaken _
    have harg := rangeArg_bytes n hlow hhigh hend
    rw [hrun]
    refine ⟨fun hnone => ?_, fun c hc hcopy => ⟨fun hvalid => ?_, fun hstale => ?_⟩⟩
    · rw [ownReadImage_notCached harg (imageRange_of_none hnone ..)]
    · obtain ⟨hbytes, _⟩ := hcopy
      have hrange : imageRange (s.slots.get n) off.toNat len.toNat = some _ :=
        (imageRange_of_some hc ..).trans (if_pos ((rangeValid_iff hlow hend).mpr hvalid))
      exact ⟨_, congrArg _ (ownReadImage_cached harg hrange), window_length (by omega), fun i hi => window_getElem? hi⟩
    · obtain ⟨a, hfirst, hlast, hmark⟩ := hstale
      have hinvalid : ¬ rangeValid c off.toNat len.toNat = true := fun hvalid =>
        nomatch hmark.symm.trans ((rangeValid_iff hlow hend).mp hvalid a hfirst hlast)
      rw [ownReadImage_notCached harg ((imageRange_of_some hc ..).trans (if_neg hinvalid))]
  · rw [exec_readImage_taken htaken, ownReadImage_malformed (rangeArg_eq_none hp)]

/-! ### READ MODULE (R178) -/

theorem exec_readModule_taken {tag : Byte} {s : State} (h : Taken s tag 0x13) (p : List Byte) :
    exec (.readModule tag p) s = .next (ownReadModule tag p s) :=
  congrArg Host.Outcome.next (acceptFrame_taken (kind := kindReadModule) (ownReadModule tag p) h (by decide))

section ReadModule
variable {tag : Byte} {payload : List Byte} {n : SlotNo} {off len : Nat} {s : State}

theorem ownReadModule_malformed (harg : rangeArg payload = none) :
    ownReadModule tag payload s = withReply tag 0x13 .badArgument [] s := by
  simp only [ownReadModule, harg]
  rfl

theorem ownReadModule_notReady (harg : rangeArg payload = some (n, off, len))
    (hst : occupied (s.slots.get n).state = false) :
    ownReadModule tag payload s = withReply tag 0x13 .notReady [] s := by
  simp only [ownReadModule, harg, hst]
  rfl

theorem ownReadModule_busFault (harg : rangeArg payload = some (n, off, len))
    (hst : occupied (s.slots.get n).state = true) (hbus : s.bus = .faulted) :
    ownReadModule tag payload s = withReply tag 0x13 .busFault [] s := by
  simp only [ownReadModule, harg, hst, hbus]
  rfl

theorem ownReadModule_accepted (harg : rangeArg payload = some (n, off, len))
    (hst : occupied (s.slots.get n).state = true) (hbus : s.bus ≠ .faulted) :
    ownReadModule tag payload s = takeJob tag 0x13 (.moduleRead n off len) s := by
  simp only [ownReadModule, harg, hst, if_neg hbus]
  rfl

end ReadModule

/-! ### WRITE USER (R77, R179) -/

/-- What WRITE USER's payload must be before its place is looked at. -/
theorem writeArg_eq_some_iff {p : List Byte} {n : SlotNo} {off : Nat} {data : List Byte} :
    writeArg p = some (n, off, data) ↔ ∃ sl o cnt : Byte, p = sl :: o :: cnt :: data ∧ slotArg sl = some n ∧
      off = o.toNat ∧ data.length = cnt.toNat ∧ 1 ≤ cnt.toNat ∧ cnt.toNat ≤ 16 := by
  refine ⟨fun h => ?_, fun ⟨sl, o, cnt, hp, hn, hoff, hcount⟩ => ?_⟩
  · unfold writeArg at h
    split at h
    next sl o cnt _ =>
      split at h
      next hn =>
        obtain ⟨hcount, ⟨⟩⟩ := Option.ite_none_right_eq_some.mp h
        exact ⟨sl, o, cnt, rfl, hn, rfl, hcount⟩
      next => exact nomatch h
    next => exact nomatch h
  · subst hp hoff
    simp only [writeArg, hn]
    exact if_pos hcount

theorem writeArg_bytes (n : SlotNo) (off : Byte) {cnt : Byte} {data : List Byte} (hlength : data.length = cnt.toNat)
    (hlow : 1 ≤ cnt.toNat) (hhigh : cnt.toNat ≤ 16) :
    writeArg (BitVec.ofNat 8 n.val :: off :: cnt :: data) = some (n, off.toNat, data) :=
  writeArg_eq_some_iff.mpr ⟨_, off, cnt, rfl, slotArg_slot n, rfl, hlength, hlow, hhigh⟩

theorem writeArg_eq_none {p : List Byte}
    (hp : ∀ (sl off cnt : Byte) (data : List Byte), p = sl :: off :: cnt :: data →
      8 ≤ sl.toNat ∨ data.length ≠ cnt.toNat ∨ cnt = 0 ∨ 16 < cnt.toNat) : writeArg p = none := by
  refine Option.eq_none_iff_forall_ne_some.mpr fun ⟨n, off, data⟩ h => ?_
  obtain ⟨sl, o, cnt, hbytes, hn, rfl, hlength, hlow, hhigh⟩ := writeArg_eq_some_iff.mp h
  rcases hp sl o cnt data hbytes with hsl | hother | rfl | hlarge
  · exact absurd (slotArg_eq_some hn) (not_lt.mpr hsl)
  · exact hother hlength
  · exact absurd hlow (by decide)
  · omega

theorem writeFits_iff {off len : Nat} :
    writeFits off len = true ↔ off + len ≤ 256 ∧ off / 16 = (off + len - 1) / 16 := by simp [writeFits]

theorem classified_iff {st : SlotState} : classified st = true ↔ st = .valid ∨ st = .suspect ∨ st = .unusable := by
  simp [classified, or_assoc]

theorem classified_eq_false_iff {st : SlotState} :
    classified st = false ↔ st ≠ .valid ∧ st ≠ .suspect ∧ st ≠ .unusable := by
  simp [classified, and_assoc]

theorem exec_writeUser_taken {tag : Byte} {s : State} (h : Taken s tag 0x14) (p : List Byte) :
    exec (.writeUser tag p) s = .next (ownWriteUser tag p s) :=
  congrArg Host.Outcome.next (acceptFrame_taken (kind := kindWriteUser) (ownWriteUser tag p) h (by decide))

section WriteUser
variable {tag : Byte} {payload : List Byte} {n : SlotNo} {off : Nat} {data : List Byte} {s : State}

theorem ownWriteUser_malformed (harg : writeArg payload = none) :
    ownWriteUser tag payload s = withReply tag 0x14 .badArgument [] s := by
  simp only [ownWriteUser, harg]
  rfl

theorem ownWriteUser_isProtected (harg : writeArg payload = some (n, off, data)) (hoff : off < 208) :
    ownWriteUser tag payload s = withReply tag 0x14 .isProtected [] s := by
  simp only [ownWriteUser, harg, if_pos hoff]
  rfl

theorem ownWriteUser_misplaced (harg : writeArg payload = some (n, off, data)) (hoff : 208 ≤ off)
    (hfits : writeFits off data.length = false) :
    ownWriteUser tag payload s = withReply tag 0x14 .badArgument [] s := by
  simp only [ownWriteUser, harg, if_neg (not_lt.mpr hoff), hfits]
  rfl

theorem ownWriteUser_notReady (harg : writeArg payload = some (n, off, data)) (hoff : 208 ≤ off)
    (hfits : writeFits off data.length = true) (hst : classified (s.slots.get n).state = false) :
    ownWriteUser tag payload s = withReply tag 0x14 .notReady [] s := by
  simp only [ownWriteUser, harg, if_neg (not_lt.mpr hoff), hfits, hst]
  rfl

theorem ownWriteUser_busFault (harg : writeArg payload = some (n, off, data)) (hoff : 208 ≤ off)
    (hfits : writeFits off data.length = true) (hst : classified (s.slots.get n).state = true) (hbus : s.bus = .faulted) :
    ownWriteUser tag payload s = withReply tag 0x14 .busFault [] s := by
  simp only [ownWriteUser, harg, if_neg (not_lt.mpr hoff), hfits, hst, hbus]
  rfl

theorem ownWriteUser_accepted (harg : writeArg payload = some (n, off, data)) (hoff : 208 ≤ off)
    (hfits : writeFits off data.length = true) (hst : classified (s.slots.get n).state = true) (hbus : s.bus ≠ .faulted) :
    ownWriteUser tag payload s = takeJob tag 0x14 (.userWrite n off data) s := by
  simp only [ownWriteUser, harg, if_neg (not_lt.mpr hoff), hfits, hst, if_neg hbus]
  rfl

end WriteUser

/-- Settles O42: each check in its order, then the job. -/
theorem moduleRequestChecks : Obligations.ModuleRequestChecks := by
  refine ⟨fun tag s htaken => ⟨fun n off len hlow hhigh hend => ?_, fun p hp => ?_⟩,
    fun tag s htaken => ⟨fun n off cnt data hlength hlow hhigh => ?_, fun p hp => ?_⟩⟩
  · intro st run
    have hrun : run = .next _ := exec_readModule_taken htaken _
    have harg := rangeArg_bytes n hlow hhigh hend
    rw [hrun]
    refine ⟨fun hst => ?_, fun hempty hsettling hbus => ?_, fun hempty hsettling hbus => ?_⟩
    · rw [ownReadModule_notReady harg (occupied_eq_false_iff.mpr hst)]
    · rw [ownReadModule_busFault harg (occupied_iff.mpr ⟨hempty, hsettling⟩) hbus]
    · rw [ownReadModule_accepted harg (occupied_iff.mpr ⟨hempty, hsettling⟩) hbus]
      rfl
  · rw [exec_readModule_taken htaken, ownReadModule_malformed (rangeArg_eq_none hp)]
  · intro st run last
    have hrun : run = .next _ := exec_writeUser_taken htaken _
    have harg := writeArg_bytes n off hlength hlow hhigh
    have hfits : writeFits off.toNat data.length = true ↔ off.toNat + cnt.toNat ≤ 256 ∧ off.toNat / 16 = last / 16 :=
      by rw [writeFits_iff, hlength]
    rw [hrun]
    refine ⟨fun hoff => ?_, fun hoff => ⟨fun hout => ?_, fun hend hpage => ⟨fun hvalid hsuspect hunusable => ?_,
      fun hst => ⟨fun hbus => ?_, fun hbus => ?_⟩⟩⟩⟩
    · rw [ownWriteUser_isProtected harg hoff]
    · have hmisplaced : writeFits off.toNat data.length = false := Bool.eq_false_iff.mpr fun h =>
        hout.elim (not_lt.mpr (hfits.mp h).1) fun hpages => hpages (hfits.mp h).2
      rw [ownWriteUser_misplaced harg hoff hmisplaced]
    · rw [ownWriteUser_notReady harg hoff (hfits.mpr ⟨hend, hpage⟩)
        (classified_eq_false_iff.mpr ⟨hvalid, hsuspect, hunusable⟩)]
    · rw [ownWriteUser_busFault harg hoff (hfits.mpr ⟨hend, hpage⟩) (classified_iff.mpr hst) hbus]
    · rw [ownWriteUser_accepted harg hoff (hfits.mpr ⟨hend, hpage⟩) (classified_iff.mpr hst) hbus]
      rfl
  · rw [exec_writeUser_taken htaken, ownWriteUser_malformed (writeArg_eq_none hp)]

/-! ### Booleans (R202) -/

/-- A byte of 0 or 1 reads as a boolean. -/
theorem boolArg_of_le_one {b : Byte} (h : b.toNat ≤ 1) : boolArg b = some (b == 1) := by
  have hb : b = 0 ∨ b = 1 := by
    rcases Nat.le_one_iff_eq_zero_or_eq_one.mp h with hb | hb
    · exact .inl (eq_byte_of_toNat hb)
    · exact .inr (eq_byte_of_toNat hb)
  rcases hb with rfl | rfl <;> rfl

theorem toNat_boolByte_le_one (v : Bool) : (boolByte v).toNat ≤ 1 := by cases v <;> decide

/-! ### RESCAN (R181) -/

/-- What RESCAN's payload must be, byte by byte. -/
theorem rescanArg_eq_some_iff {p : List Byte} {n : SlotNo} {force : Bool} :
    rescanArg p = some (n, force) ↔ ∃ sl fc : Byte, p = [sl, fc] ∧ slotArg sl = some n ∧ boolArg fc = some force := by
  refine ⟨fun h => ?_, fun ⟨sl, fc, hp, hn, hforce⟩ => ?_⟩
  · unfold rescanArg at h
    split at h
    next sl fc =>
      split at h
      next hn hforce =>
        cases h
        exact ⟨sl, fc, rfl, hn, hforce⟩
      next => exact nomatch h
    next => exact nomatch h
  · simp only [rescanArg, hp, hn, hforce]

theorem rescanArg_bytes (n : SlotNo) {force : Byte} (h : force.toNat ≤ 1) :
    rescanArg [BitVec.ofNat 8 n.val, force] = some (n, force == 1) :=
  rescanArg_eq_some_iff.mpr ⟨_, force, rfl, slotArg_slot n, boolArg_of_le_one h⟩

theorem rescanArg_eq_none {p : List Byte}
    (hp : ∀ sl force : Byte, p = [sl, force] → 8 ≤ sl.toNat ∨ 2 ≤ force.toNat) : rescanArg p = none := by
  refine Option.eq_none_iff_forall_ne_some.mpr fun ⟨n, force⟩ h => ?_
  obtain ⟨sl, fc, hbytes, hn, hforce⟩ := rescanArg_eq_some_iff.mp h
  rcases hp sl fc hbytes with hsl | hcode
  · exact absurd (slotArg_eq_some hn) (not_lt.mpr hsl)
  · rw [boolArg_eq_some_iff.mp hforce] at hcode
    exact absurd (toNat_boolByte_le_one force) (not_le.mpr hcode)

theorem exec_rescan_taken {tag : Byte} {s : State} (h : Taken s tag 0x15) (p : List Byte) :
    exec (.rescan tag p) s = .next (ownRescan tag p s) :=
  congrArg Host.Outcome.next (acceptFrame_taken (kind := kindRescan) (ownRescan tag p) h (by decide))

section Rescan
variable {tag : Byte} {payload : List Byte} {n : SlotNo} {force : Bool} {s : State}

theorem ownRescan_malformed (harg : rescanArg payload = none) :
    ownRescan tag payload s = withReply tag 0x15 .badArgument [] s := by
  simp only [ownRescan, harg]
  rfl

theorem ownRescan_notReady (harg : rescanArg payload = some (n, force)) (hst : occupied (s.slots.get n).state = false) :
    ownRescan tag payload s = withReply tag 0x15 .notReady [] s := by
  simp only [ownRescan, harg, hst]
  rfl

theorem ownRescan_inUse (harg : rescanArg payload = some (n, false)) (hst : occupied (s.slots.get n).state = true)
    (hset : inAppliedSet s n = true) : ownRescan tag payload s = withReply tag 0x15 .inUse [] s := by
  simp only [ownRescan, harg, hst, hset]
  rfl

theorem ownRescan_busFault (harg : rescanArg payload = some (n, force)) (hst : occupied (s.slots.get n).state = true)
    (hfree : (!force && inAppliedSet s n) = false) (hbus : s.bus = .faulted) :
    ownRescan tag payload s = withReply tag 0x15 .busFault [] s := by
  simp only [ownRescan, harg, hst, hfree, hbus]
  rfl

theorem ownRescan_accepted (harg : rescanArg payload = some (n, force)) (hst : occupied (s.slots.get n).state = true)
    (hfree : (!force && inAppliedSet s n) = false) (hbus : s.bus ≠ .faulted) :
    ownRescan tag payload s = demandScan n false [tag] (joinInbox tag 0x15 .busJob s) := by
  simp only [ownRescan, harg, hst, hfree, if_neg hbus]
  rfl

end Rescan

/-! ### BUS RESET (R84, R189) -/

theorem exec_busReset_taken {tag : Byte} {s : State} (h : Taken s tag 0x32) (p : List Byte) :
    exec (.busReset tag p) s = .next (ownBusReset tag p s) :=
  congrArg Host.Outcome.next (acceptFrame_taken (kind := kindBusReset) (ownBusReset tag p) h (by decide))

theorem ownBusReset_faulted {s : State} (h : s.bus = .faulted) (tag : Byte) (p : List Byte) :
    ownBusReset tag p s =
      startJob { work := .recover, presence := false, tags := [tag] } true (joinInbox tag 0x32 .busJob s) := if_pos h

theorem ownBusReset_waits {s : State} (h : s.bus ≠ .faulted) (tag : Byte) (p : List Byte) :
    ownBusReset tag p s = takeJob tag 0x32 .recover s := if_neg h

/-- Settles O44: RESCAN's checks in their order, then BUS RESET by the bus state. -/
theorem rescanAndBusReset : Obligations.RescanAndBusReset := by
  refine fun tag s => ⟨fun htaken => ⟨fun n force hforce => ?_, fun p hp => ?_⟩, fun p htaken => ?_⟩
  · intro st run
    have hrun : run = .next _ := exec_rescan_taken htaken _
    have harg := rescanArg_bytes n hforce
    rw [hrun]
    refine ⟨fun hst => ?_, fun hempty hsettling => ⟨fun hzero hset => ?_, fun hallowed => ?_⟩⟩
    · rw [ownRescan_notReady harg (occupied_eq_false_iff.mpr hst)]
    · subst hzero
      rw [ownRescan_inUse harg (occupied_iff.mpr ⟨hempty, hsettling⟩) (inAppliedSet_iff.mpr hset)]
    · have hfree : (!(force == 1) && inAppliedSet s n) = false := by
        rcases hallowed with rfl | hset
        · rfl
        · rw [inAppliedSet_eq_false_iff.mpr hset, Bool.and_false]
      refine ⟨fun hbus => ?_, fun hbus => ?_⟩
      · rw [ownRescan_busFault harg (occupied_iff.mpr ⟨hempty, hsettling⟩) hfree hbus]
      · rw [ownRescan_accepted harg (occupied_iff.mpr ⟨hempty, hsettling⟩) hfree hbus]
        rfl
  · rw [exec_rescan_taken htaken, ownRescan_malformed (rescanArg_eq_none hp)]
  · intro job t
    rw [exec_busReset_taken htaken]
    refine ⟨fun hbus => ?_, fun hbus => ?_⟩
    · rw [ownBusReset_faulted hbus]
      rfl
    · rw [ownBusReset_waits hbus]
      rfl

end Sys2Proof.Machine
end

section
/-! INFO, CONFIGURE, GET TARGET, SET LADDER and GET LADDER (R169 to R172), the views of slots and profiles (R173 to R176,
R185): what each is replied. -/

namespace Sys2Proof.Machine

/-! ### CONFIGURE (R102, R170) -/

theorem settleTimeOk_iff {ms : Nat} : settleTimeOk ms = true ↔ 10 ≤ ms ∧ ms ≤ 250 ∧ ms % 10 = 0 := by
  simp [settleTimeOk, and_assoc]

/-- A bus speed's code is the only byte that reads as it (R204). -/
theorem busSpeedArg_eq_some_iff {b : Byte} {v : BusSpeed} : busSpeedArg b = some v ↔ b = busSpeedCode v := by
  refine ⟨fun h => ?_, fun h => ?_⟩
  · unfold busSpeedArg at h
    split at h
    next hb =>
      cases h
      exact eq_byte_of_toNat hb
    next hb =>
      cases h
      exact eq_byte_of_toNat hb
    next => exact nomatch h
  · cases v <;> exact h ▸ rfl

/-- What CONFIGURE accepts is a configuration in range, sent as its reply shows it. -/
theorem configArg_eq_some_iff {p : List Byte} {c : Configuration} :
    configArg p = some c ↔ settleTimeOk c.settleMs = true ∧ p = configPayload c := by
  refine ⟨fun h => ?_, fun ⟨hok, hp⟩ => ?_⟩
  · unfold configArg at h
    split at h
    next =>
      split at h
      next hspeed halert =>
        obtain ⟨hok, ⟨⟩⟩ := Option.ite_none_right_eq_some.mp h
        refine ⟨hok, ?_⟩
        rw [busSpeedArg_eq_some_iff.mp hspeed, boolArg_eq_some_iff.mp halert, configPayload, byte_toNat]
      next => exact nomatch h
    next => exact nomatch h
  · obtain ⟨_, hmax, _⟩ := settleTimeOk_iff.mp hok
    simp only [hp, configPayload, configArg, busSpeedArg_eq_some_iff.mpr rfl, boolArg_eq_some_iff.mpr rfl,
      toNat_byte (Nat.lt_of_le_of_lt hmax (by decide)), if_pos hok]

theorem toNat_busSpeedCode_le_one (v : BusSpeed) : (busSpeedCode v).toNat ≤ 1 := by cases v <;> decide

/-- The three bytes of CONFIGURE, where each is in range, are those of the configuration they set. -/
theorem configPayload_of_bytes {speed alert : Byte} (ms : Byte) (hspeed : speed.toNat ≤ 1) (halert : alert.toNat ≤ 1) :
    configPayload { settleMs := ms.toNat, busSpeed := if speed = 0 then .khz100 else .khz400, alertEnable := alert == 1 } =
      [ms, speed, alert] := by
  have hspeedCode : busSpeedCode (if speed = 0 then .khz100 else .khz400) = speed := by
    rcases Nat.le_one_iff_eq_zero_or_eq_one.mp hspeed with h | h <;> rw [eq_byte_of_toNat h] <;> rfl
  rw [configPayload, byte_toNat, hspeedCode, ← boolArg_eq_some_iff.mp (boolArg_of_le_one halert)]

theorem configArg_bytes {ms speed alert : Byte} (hms : settleTimeOk ms.toNat = true) (hspeed : speed.toNat ≤ 1)
    (halert : alert.toNat ≤ 1) :
    configArg [ms, speed, alert] =
      some { settleMs := ms.toNat, busSpeed := if speed = 0 then .khz100 else .khz400, alertEnable := alert == 1 } :=
  configArg_eq_some_iff.mpr ⟨hms, (configPayload_of_bytes ms hspeed halert).symm⟩

theorem configArg_eq_none {p : List Byte}
    (hp : ∀ ms speed alert : Byte, p = [ms, speed, alert] →
      ¬ (10 ≤ ms.toNat ∧ ms.toNat ≤ 250 ∧ ms.toNat % 10 = 0 ∧ speed.toNat ≤ 1 ∧ alert.toNat ≤ 1)) :
    configArg p = none := by
  refine Option.eq_none_iff_forall_ne_some.mpr fun c h => ?_
  obtain ⟨hok, hbytes⟩ := configArg_eq_some_iff.mp h
  obtain ⟨hmin, hmax, hstep⟩ := settleTimeOk_iff.mp hok
  refine hp _ _ _ hbytes ?_
  rw [toNat_byte (Nat.lt_of_le_of_lt hmax (by decide))]
  exact ⟨hmin, hmax, hstep, toNat_busSpeedCode_le_one _, toNat_boolByte_le_one _⟩

section Configure
variable {tag : Byte} {payload : List Byte} {s : State}

theorem ownConfigure_malformed (harg : configArg payload = none) :
    ownConfigure tag payload s = withReply tag 0x02 .badArgument [] s := by
  simp only [ownConfigure, harg]
  rfl

theorem ownConfigure_accepted {c : Configuration} (harg : configArg payload = some c) :
    ownConfigure tag payload s = withReply tag 0x02 .ok (configPayload c) (updateAlert { s with config := c }) := by
  simp only [ownConfigure, harg]
  rfl

end Configure

/-- Alerts are off where alert enable is 0. -/
theorem alertLevel_of_byte {alert : Byte} (h : alert.toNat ≤ 1) (notices : List Notice) :
    alertLevel notices (alert == 1) = (notices.isEmpty || alert == 0) := by
  rcases Nat.le_one_iff_eq_zero_or_eq_one.mp h with h | h <;> rw [eq_byte_of_toNat h] <;> rfl

/-! ### SET LADDER (R100, R172) -/

theorem ladderArg_eq_none {p : List Byte} (h : ∀ ps, ladderOk ps = true → p ≠ ladderPayload ps) : ladderArg p = none :=
  Option.eq_none_iff_forall_ne_some.mpr fun ps hps =>
    let ⟨hok, hp⟩ := ladderArg_eq_some_iff.mp hps
    h ps hok hp

section SetLadder
variable {tag : Byte} {payload : List Byte} {s : State}

theorem ownSetLadder_malformed (harg : ladderArg payload = none) :
    ownSetLadder tag payload s = withReply tag 0x05 .badArgument [] s := by
  simp only [ownSetLadder, harg]
  rfl

theorem ownSetLadder_accepted {ps : List Nat} (harg : ladderArg payload = some ps) :
    ownSetLadder tag payload s = withReply tag 0x05 .ok [] { s with ladder := ps } := by
  simp only [ownSetLadder, harg]
  rfl

end SetLadder

/-! ### The requests of Settings -/

section Settings
variable {tag : Byte} {s : State}

theorem exec_info_taken (h : Taken s tag 0x01) (p : List Byte) :
    exec (.info tag p) s = .next (withReply tag 0x01 .ok (infoPayload s) s) :=
  congrArg Host.Outcome.next (acceptFrame_taken (kind := kindInfo) (ownInfo tag p) h (by decide))

theorem exec_configure_taken (h : Taken s tag 0x02) (p : List Byte) :
    exec (.configure tag p) s = .next (ownConfigure tag p s) :=
  congrArg Host.Outcome.next (acceptFrame_taken (kind := kindConfigure) (ownConfigure tag p) h (by decide))

theorem exec_getTarget_taken (h : Taken s tag 0x04) (p : List Byte) :
    exec (.getTarget tag p) s = .next (withReply tag 0x04 .ok (targetPayload s.target ++ le2 s.targetGen.toNat) s) :=
  congrArg Host.Outcome.next (acceptFrame_taken (kind := kindGetTarget) (ownGetTarget tag p) h (by decide))

theorem exec_setLadder_taken (h : Taken s tag 0x05) (p : List Byte) :
    exec (.setLadder tag p) s = .next (ownSetLadder tag p s) :=
  congrArg Host.Outcome.next (acceptFrame_taken (kind := kindSetLadder) (ownSetLadder tag p) h (by decide))

theorem exec_getLadder_taken (h : Taken s tag 0x06) (p : List Byte) :
    exec (.getLadder tag p) s = .next (withReply tag 0x06 .ok (ladderPayload s.ladder) s) :=
  congrArg Host.Outcome.next (acceptFrame_taken (kind := kindGetLadder) (ownGetLadder tag p) h (by decide))

end Settings

/-- Settles O34: the three that report, and CONFIGURE and SET LADDER by what their payloads read as. -/
theorem settingsReadAndSet : Obligations.SettingsReadAndSet := by
  refine ⟨⟨fun tag p s htaken => ?_, fun tag s htaken => ?_⟩,
    fun tag p s => ⟨fun htaken => ?_, fun htaken => ?_, fun htaken => ?_⟩⟩
  · rw [exec_info_taken htaken]
    rfl
  · intro good
    refine ⟨fun ms speed alert ⟨hmin, hmax, hstep, hspeed, halert⟩ => ?_, fun p hp => ?_⟩
    · rw [exec_configure_taken htaken,
        ownConfigure_accepted (configArg_bytes (settleTimeOk_iff.mpr ⟨hmin, hmax, hstep⟩) hspeed halert),
        configPayload_of_bytes ms hspeed halert, updateAlert, alertLevel_of_byte halert]
    · rw [exec_configure_taken htaken, ownConfigure_malformed (configArg_eq_none hp)]
  · rw [exec_getTarget_taken htaken]
  · rw [exec_getLadder_taken htaken]
    rfl
  · rw [exec_setLadder_taken htaken]
    refine ⟨fun ps hok hp => ?_, fun hp => ?_⟩
    · rw [ownSetLadder_accepted (ladderArg_eq_some_iff.mpr ⟨hok, hp⟩)]
    · rw [ownSetLadder_malformed (ladderArg_eq_none hp)]

/-! ### LIST SLOTS and GET SLOT (R173 to R176) -/

theorem slotListing_eq (s : State) (n : SlotNo) :
    slotListing s n =
      [slotStateCode (s.slots.get n).state, BitVec.ofNat 8 (s.slots.get n).gen.toNat,
        BitVec.ofNat 8 ((s.slots.get n).gen.toNat / 256),
        (if scanPending s n = true then 1 else 0) + (if (s.slots.get n).clash = [] then 0 else 2),
        BitVec.ofNat 8 (s.slots.get n).overrides.length] := by
  have hclash : (if (!(s.slots.get n).clash.isEmpty) = true then (2 : Byte) else 0) =
      if (s.slots.get n).clash = [] then 0 else 2 := by
    cases (s.slots.get n).clash <;> rfl
  rw [slotListing, boolByte_or_shift, hclash]
  rfl

/-- What GET SLOT's payload must be, byte by byte. -/
theorem slotViewArg_eq_some_iff {p : List Byte} {n : SlotNo} {v : View} :
    slotViewArg p = some (n, v) ↔ ∃ sl code : Byte, p = [sl, code] ∧ slotArg sl = some n ∧ viewArg code = some v := by
  refine ⟨fun h => ?_, fun ⟨sl, code, hp, hn, hv⟩ => ?_⟩
  · unfold slotViewArg at h
    split at h
    next sl code =>
      split at h
      next hn hv =>
        cases h
        exact ⟨sl, code, rfl, hn, hv⟩
      next => exact nomatch h
    next => exact nomatch h
  · simp only [slotViewArg, hp, hn, hv]

/-- The six views have the codes 0 to 5 (R204). -/
theorem viewArg_eq_some {code : Byte} {v : View} (h : viewArg code = some v) : code.toNat < 6 := by
  by_contra hcode
  unfold viewArg at h
  split at h
  iterate 6
    next hb => omega
  next => exact nomatch h

theorem slotViewArg_eq_none {p : List Byte}
    (hp : ∀ sl code : Byte, p = [sl, code] → 8 ≤ sl.toNat ∨ 6 ≤ code.toNat) : slotViewArg p = none := by
  refine Option.eq_none_iff_forall_ne_some.mpr fun ⟨n, v⟩ h => ?_
  obtain ⟨sl, code, hbytes, hn, hv⟩ := slotViewArg_eq_some_iff.mp h
  rcases hp sl code hbytes with hsl | hcode
  · exact absurd (slotArg_eq_some hn) (not_lt.mpr hsl)
  · exact absurd (viewArg_eq_some hv) (not_lt.mpr hcode)

/-- Only an image view of a slot without a copy has no bytes (R174). -/
theorem viewPayload_eq_none_iff {s : State} {n : SlotNo} {v : View} :
    viewPayload s n v = none ↔ v ≠ .summary ∧ v ≠ .overrides ∧ (s.slots.get n).image = none := by
  cases v <;> simp [viewPayload]

section GetSlot
variable {tag : Byte} {payload : List Byte} {n : SlotNo} {v : View} {s : State}

theorem exec_listSlots_taken (h : Taken s tag 0x10) (p : List Byte) :
    exec (.listSlots tag p) s = .next (withReply tag 0x10 .ok (listSlotsPayload s) s) :=
  congrArg Host.Outcome.next (acceptFrame_taken (kind := kindListSlots) (ownListSlots tag p) h (by decide))

theorem exec_getSlot_taken (h : Taken s tag 0x11) (p : List Byte) :
    exec (.getSlot tag p) s = .next (ownGetSlot tag p s) :=
  congrArg Host.Outcome.next (acceptFrame_taken (kind := kindGetSlot) (ownGetSlot tag p) h (by decide))

theorem ownGetSlot_malformed (harg : slotViewArg payload = none) :
    ownGetSlot tag payload s = withReply tag 0x11 .badArgument [] s := by
  simp only [ownGetSlot, harg]
  rfl

theorem ownGetSlot_notCached (harg : slotViewArg payload = some (n, v)) (hbytes : viewPayload s n v = none) :
    ownGetSlot tag payload s = withReply tag 0x11 .notCached [] s := by
  simp only [ownGetSlot, harg, hbytes]
  rfl

theorem ownGetSlot_shown {bytes : List Byte} (harg : slotViewArg payload = some (n, v))
    (hbytes : viewPayload s n v = some bytes) :
    ownGetSlot tag payload s = withReply tag 0x11 .ok bytes s := by
  simp only [ownGetSlot, harg, hbytes]
  rfl

end GetSlot

/-! ### GET PROFILE and LIST PROFILES (R147, R185) -/

section Profiles
variable {tag : Byte} {s : State}

theorem exec_getProfile_taken (h : Taken s tag 0x21) (p : List Byte) :
    exec (.getProfile tag p) s = .next (ownGetProfile tag p s) :=
  congrArg Host.Outcome.next (acceptFrame_taken (kind := kindGetProfile) (ownGetProfile tag p) h (by decide))

theorem exec_listProfiles_taken (h : Taken s tag 0x22) (p : List Byte) :
    exec (.listProfiles tag p) s = .next (withReply tag 0x22 .ok (listProfilesPayload s) s) :=
  congrArg Host.Outcome.next (acceptFrame_taken (kind := kindListProfiles) (ownListProfiles tag p) h (by decide))

theorem ownGetProfile_held (hnodup : (s.entries.map Entry.handle).Nodup) {e : Entry} (he : e ∈ s.entries) :
    ownGetProfile tag [e.handle] s = withReply tag 0x21 .ok (profilePayload e) s := withEntry_held hnodup he

theorem ownGetProfile_unknown {h : Byte} (hnone : ∀ e ∈ s.entries, e.handle ≠ h) :
    ownGetProfile tag [h] s = withReply tag 0x21 .unknownProfile [] s := withEntry_unknown hnone

theorem ownGetProfile_malformed {p : List Byte} (hp : p.length ≠ 1) :
    ownGetProfile tag p s = withReply tag 0x21 .badArgument [] s := withEntry_malformed hp

end Profiles

theorem entryListing_eq (e : Entry) :
    entryListing e =
      [e.handle,
        (match e.state with
          | .queued _ => 1 | .building _ _ => 2 | .valid _ _ => 3 | .failed _ _ => 4 | .stale _ _ => 5),
        (if e.applied = true then 1 else 0)] ++ le4 e.creation.toNat ++
      [(match e.state with | .queued t => t | .building t _ => t | _ => 0)] := by
  unfold entryListing requestTag
  cases e.state <;> rfl

theorem requestPayload_eq (r : ResolveRequest) :
    requestPayload r =
      [BitVec.ofNat 8 r.slots.length] ++ r.slots.map (fun n => BitVec.ofNat 8 n.val) ++
      (match r.mode with | .fastest => [0, 0, 0] | .fixed q => [1, BitVec.ofNat 8 q, BitVec.ofNat 8 (q / 256)]) ++
      [(if r.hot = true then 1 else 0), (if r.acceptSuspect = true then 1 else 0)] := by
  unfold requestPayload
  cases r.mode <;> rfl

/-- Settles O38: view by view and record by record. -/
theorem slotAndProfileViews : Obligations.SlotAndProfileViews := by
  refine ⟨fun tag p s => ⟨fun htaken => ?_, fun htaken => ⟨fun n v code hcode => ⟨fun hshown => ?_,
    fun hsummary hoverrides hnone => ?_⟩, fun hp => ?_⟩⟩, ?_⟩
  · rw [exec_listSlots_taken htaken, listSlotsPayload, List.flatMap_congr fun n _ => slotListing_eq s n]
  · obtain ⟨bytes, hbytes⟩ : ∃ bytes, viewPayload s n v = some bytes := by
      refine Option.ne_none_iff_exists'.mp fun hnone => ?_
      obtain ⟨hsummary, hoverrides, himage⟩ := viewPayload_eq_none_iff.mp hnone
      exact hshown.elim hsummary fun h => h.elim hoverrides fun h => h himage
    refine ⟨bytes, hbytes, ?_⟩
    rw [exec_getSlot_taken htaken,
      ownGetSlot_shown (slotViewArg_eq_some_iff.mpr ⟨_, code, rfl, slotArg_slot n, hcode⟩) hbytes]
  · rw [exec_getSlot_taken htaken,
      ownGetSlot_notCached (slotViewArg_eq_some_iff.mpr ⟨_, code, rfl, slotArg_slot n, hcode⟩)
        (viewPayload_eq_none_iff.mpr ⟨hsummary, hoverrides, hnone⟩)]
  · rw [exec_getSlot_taken htaken, ownGetSlot_malformed (slotViewArg_eq_none hp)]
  · intro head asked snap tag p s
    refine ⟨fun htaken hnodup => ⟨fun e he => ?_, fun h hnone => ?_, fun hp => ?_⟩, fun htaken => ?_⟩
    · rw [exec_getProfile_taken htaken, ownGetProfile_held hnodup he, profilePayload, entryListing_eq, requestPayload_eq]
      rfl
    · rw [exec_getProfile_taken htaken, ownGetProfile_unknown hnone]
    · rw [exec_getProfile_taken htaken, ownGetProfile_malformed hp]
    · rw [exec_listProfiles_taken htaken, listProfilesPayload, List.flatMap_congr fun e _ => entryListing_eq e]
      rfl

end Sys2Proof.Machine
end

section
/-! The intake of a raised notice, case by case (R194 to R198), and FETCH NOTICES (R187, R197). -/

namespace Sys2Proof.Machine

/-! ### Records -/

theorem isLost_iff {n : Notice} : isLost n = true ↔ ∃ tally, n.body = .noticesLost tally := by
  unfold isLost
  split <;> simp_all

/-- A loss is counted in the NOTICES_LOST record alone. -/
theorem countLoss_of_ordinary {n : Notice} (h : isLost n = false) : countLoss n = n := by
  unfold countLoss
  split
  next tally hbody => exact absurd (isLost_iff.mpr ⟨tally, hbody⟩) (by simp [h])
  next => rfl

theorem map_countLoss_of_ordinary {ns : List Notice} (h : ∀ x ∈ ns, isLost x = false) : ns.map countLoss = ns :=
  (List.map_congr_left fun x hx => countLoss_of_ordinary (h x hx)).trans (List.map_id ns)

/-- The tally counts one more loss, up to 255 (R196). -/
theorem countLoss_lost (q : Word16) (k : Nat) :
    countLoss { seq := q, body := .noticesLost k } =
      { seq := q, body := .noticesLost (if k < 255 then k + 1 else 255) } := by
  have htally : min 255 (k + 1) = if k < 255 then k + 1 else 255 := by split <;> omega
  rw [← htally]
  rfl

/-! ### The intake (R195, R196) -/

section Intake
variable {b : NoticeBody} {s : State}

theorem intake_of_room (h : ordinaryCount s.notices < 15) : intake b s = appendNotice b s := if_pos h

theorem intake_of_first_loss (hfull : ¬ ordinaryCount s.notices < 15) (hnone : ∀ x ∈ s.notices, isLost x = false) :
    intake b s = appendNotice (.noticesLost 1) s := by
  have hany : ¬ s.notices.any isLost = true := by simpa using hnone
  exact (if_neg hfull).trans (if_neg hany)

theorem intake_of_counted_loss (hfull : ¬ ordinaryCount s.notices < 15) (hlost : ∃ x ∈ s.notices, isLost x = true) :
    intake b s = { s with notices := s.notices.map countLoss } :=
  (if_neg hfull).trans (if_pos (List.any_eq_true.mpr hlost))

end Intake

/-! ### The alert line (R198) -/

/-- While the queue holds something ALERT_N is the opposite of alert enable. -/
theorem updateAlert_of_ne_nil {s : State} (h : s.notices ≠ []) :
    updateAlert s = { s with alertN := !s.config.alertEnable } := by
  simp [updateAlert, alertLevel, h]

/-- Settles O9: the intake's three cases, after each of which the queue holds something. -/
theorem noticeIntake : Obligations.NoticeIntake := by
  refine fun b s _ => ⟨fun hroom => ?_, fun hfull hnone => ?_, fun front back q k hqueue hordinary hfull => ?_⟩
  · rw [raise, intake_of_room hroom, updateAlert_of_ne_nil (by simp [appendNotice])]
    rfl
  · rw [raise, intake_of_first_loss hfull.not_lt hnone, updateAlert_of_ne_nil (by simp [appendNotice])]
    rfl
  · have hlost : ∃ x ∈ s.notices, isLost x = true := ⟨{ seq := q, body := .noticesLost k }, by simp [hqueue], rfl⟩
    obtain ⟨hfront, hback⟩ := List.forall_mem_append.mp hordinary
    rw [raise, intake_of_counted_loss hfull.not_lt hlost, updateAlert_of_ne_nil (by simp [hqueue]), hqueue,
      List.map_append, List.map_cons, map_countLoss_of_ordinary hfront, map_countLoss_of_ordinary hback, countLoss_lost]

/-! ### FETCH NOTICES (R187, R197) -/

theorem exec_fetchNotices_taken {tag : Byte} {s : State} (h : Taken s tag 0x30) (p : List Byte) :
    exec (.fetchNotices tag p) s = .next (ownFetchNotices tag p s) :=
  congrArg Host.Outcome.next (acceptFrame_taken (kind := kindFetchNotices) (ownFetchNotices tag p) h (by decide))

theorem maximumArg_eq_none {p : List Byte} (h : ∀ m : Byte, p = [m] → m = 0 ∨ 6 < m.toNat) : maximumArg p = none := by
  unfold maximumArg
  split
  next m =>
    refine if_neg fun ⟨hmin, hmax⟩ => ?_
    rcases h m rfl with rfl | hover
    · exact absurd hmin (by decide)
    · exact hover.not_ge hmax
  next => rfl

theorem ownFetchNotices_malformed {p : List Byte} (h : maximumArg p = none) (tag : Byte) (s : State) :
    ownFetchNotices tag p s = withReply tag 0x30 .badArgument [] s := by
  simp only [ownFetchNotices, h]
  rfl

theorem ownFetchNotices_accepted {p : List Byte} {m : Nat} (h : maximumArg p = some m) (tag : Byte) (s : State) :
    ownFetchNotices tag p s =
      withReply tag 0x30 .ok (noticesPayload (s.notices.take m)) (updateAlert { s with notices := s.notices.drop m }) := by
  simp only [ownFetchNotices, h]
  rfl

/-- Settles O49: a maximum in range takes its records from the front, and every other payload is refused. -/
theorem fetchRemovesFromTheFront : Obligations.FetchRemovesFromTheFront := by
  refine fun tag s htaken => ⟨fun m hmin hmax => ?_, fun p hp => ?_⟩
  · have harg : maximumArg [m] = some m.toNat := if_pos ⟨hmin, hmax⟩
    rw [exec_fetchNotices_taken htaken, ownFetchNotices_accepted harg]
    rfl
  · rw [exec_fetchNotices_taken htaken, ownFetchNotices_malformed (maximumArg_eq_none hp)]

end Sys2Proof.Machine
end

section
/-! The Notice Queue's invariant (R194 to R198): the intake of an ordinary notice, a removal from the front and a counted
loss keep it; and what it is for an event to do nothing to the queue but raise ordinary notices. -/

namespace Sys2Proof.Machine

/-! ### Sequence numbers (R194) -/

/-- One more record in the queue carries the number the counter held. -/
theorem seqRun_succ (next : Word16) (k : Nat) : seqRun (next + 1) (k + 1) = seqRun next k ++ [next] := by
  simp only [seqRun, List.range_succ, List.map_append, List.map_singleton]
  congr 1
  · refine List.map_congr_left fun i hi => ?_
    have hback : k + 1 - i = k - i + 1 := Nat.succ_sub (List.mem_range.mp hi).le
    rw [hback, BitVec.ofNat_add]
    exact add_sub_add_right_eq_sub next _ 1
  · simp

/-- Records that leave the front leave the numbers of those behind them. -/
theorem drop_seqRun (next : Word16) (k m : Nat) : (seqRun next k).drop m = seqRun next (k - m) := by
  refine List.ext_getElem (by simp [seqRun]) fun i _ _ => ?_
  simp [seqRun, Nat.sub_sub]

/-! ### The queue and its counter (R194 to R196) -/

/-- The Notice Queue's part of `NoticeInv`, without ALERT_N. -/
structure QueueOk (ns : List Notice) (next : Word16) : Prop where
  ordinary : ordinaryCount ns ≤ 15
  lost : ns.countP isLost ≤ 1
  tallies : ∀ n ∈ ns, tallyOk n = true
  numbers : ns.map Notice.seq = seqRun next ns.length

theorem noticeInv_iff {s : State} :
    NoticeInv s ↔ QueueOk s.notices s.nextSeq ∧ s.alertN = alertLevel s.notices s.config.alertEnable :=
  ⟨fun ⟨hordinary, hlost, htallies, hnumbers, halert⟩ => ⟨⟨hordinary, hlost, htallies, hnumbers⟩, halert⟩,
    fun ⟨⟨hordinary, hlost, htallies, hnumbers⟩, halert⟩ => ⟨hordinary, hlost, htallies, hnumbers, halert⟩⟩

theorem QueueOk.of_noticeInv {s : State} (h : NoticeInv s) : QueueOk s.notices s.nextSeq := (noticeInv_iff.mp h).1

/-- Where ALERT_N follows the queue nothing but the queue is left to be right (R198). -/
theorem QueueOk.updateAlert {s : State} (h : QueueOk s.notices s.nextSeq) : NoticeInv (updateAlert s) :=
  noticeInv_iff.mpr ⟨h, rfl⟩

theorem queueOk_nil (next : Word16) : QueueOk [] next where
  ordinary := Nat.zero_le _
  lost := Nat.zero_le _
  tallies _ hn := nomatch hn
  numbers := rfl

/-- A removal from the front (R197). -/
theorem QueueOk.drop {ns : List Notice} {next : Word16} (h : QueueOk ns next) (m : Nat) : QueueOk (ns.drop m) next where
  ordinary := ((List.drop_sublist m ns).countP_le).trans h.ordinary
  lost := ((List.drop_sublist m ns).countP_le).trans h.lost
  tallies n hn := h.tallies n (List.mem_of_mem_drop hn)
  numbers := by rw [List.map_drop, h.numbers, drop_seqRun, List.length_drop]

/-- A record at the back with the counter's number, where there is a place for it. -/
theorem QueueOk.append {ns : List Notice} {next : Word16} (h : QueueOk ns next) {n : Notice} (hseq : n.seq = next)
    (hordinary : ordinaryCount (ns ++ [n]) ≤ 15) (hlost : (ns ++ [n]).countP isLost ≤ 1) (htally : tallyOk n = true) :
    QueueOk (ns ++ [n]) (next + 1) where
  ordinary := hordinary
  lost := hlost
  tallies := List.forall_mem_append.mpr ⟨h.tallies, List.forall_mem_singleton.mpr htally⟩
  numbers := by
    rw [List.map_append, h.numbers, List.length_append, List.length_singleton, seqRun_succ, List.map_singleton, hseq]

theorem isLost_countLoss (n : Notice) : isLost (countLoss n) = isLost n := by
  unfold countLoss
  split
  next hbody => exact (isLost_iff.mpr ⟨_, hbody⟩).symm
  next => rfl

theorem seq_countLoss (n : Notice) : (countLoss n).seq = n.seq := by
  unfold countLoss
  split <;> rfl

theorem tallyOk_countLoss {n : Notice} (h : tallyOk n = true) : tallyOk (countLoss n) = true := by
  unfold countLoss
  split
  next => simp [tallyOk]
  next => exact h

/-- A loss counted in the queue's NOTICES_LOST record (R196). -/
theorem QueueOk.countLoss {ns : List Notice} {next : Word16} (h : QueueOk ns next) : QueueOk (ns.map countLoss) next where
  ordinary := by simpa [ordinaryCount, List.countP_map, Function.comp_def, isLost_countLoss] using h.ordinary
  lost := by simpa [List.countP_map, Function.comp_def, isLost_countLoss] using h.lost
  tallies := List.forall_mem_map.mpr fun n hn => tallyOk_countLoss (h.tallies n hn)
  numbers := by simpa [Function.comp_def, seq_countLoss] using h.numbers

/-! ### Raised notices (R192, R195) -/

/-- Every kind but NOTICES_LOST, which the Notice Queue alone appends (R192). -/
def IsOrdinary (b : NoticeBody) : Prop := isLost { seq := 0, body := b } = false

theorem IsOrdinary.isLost {b : NoticeBody} (h : IsOrdinary b) (q : Word16) : isLost { seq := q, body := b } = false := h

theorem tallyOk_of_ordinary {n : Notice} (h : isLost n = false) : tallyOk n = true := by
  unfold tallyOk
  split
  next tally hbody => exact absurd (isLost_iff.mpr ⟨tally, hbody⟩) (by simp [h])
  next => rfl

/-- The intake keeps the queue within its places (R195). -/
theorem QueueOk.intake {s : State} (h : QueueOk s.notices s.nextSeq) {b : NoticeBody} (hb : IsOrdinary b) :
    QueueOk (intake b s).notices (intake b s).nextSeq := by
  by_cases hroom : ordinaryCount s.notices < 15
  · have hlost := hb.isLost s.nextSeq
    rw [intake_of_room hroom]
    refine h.append rfl ?_ ?_ (tallyOk_of_ordinary hlost)
    · simpa [ordinaryCount, hlost] using hroom
    · simpa [hlost] using h.lost
  · by_cases hlost : ∃ x ∈ s.notices, isLost x = true
    · rw [intake_of_counted_loss hroom hlost]
      exact h.countLoss
    · have hnone : ∀ x ∈ s.notices, isLost x = false := by simpa using hlost
      rw [intake_of_first_loss hroom hnone]
      have hlast : isLost { seq := s.nextSeq, body := .noticesLost 1 } = true := rfl
      have hzero : s.notices.countP isLost = 0 :=
        List.countP_eq_zero.mpr fun x hx => Bool.eq_false_iff.mp (hnone x hx)
      refine h.append rfl ?_ ?_ rfl
      · simpa [ordinaryCount, hlast] using h.ordinary
      · simp [hzero, hlast]

theorem NoticeInv.raise {s : State} (h : NoticeInv s) {b : NoticeBody} (hb : IsOrdinary b) : NoticeInv (raise b s) :=
  ((QueueOk.of_noticeInv h).intake hb).updateAlert

/-- The Notice Queue, ALERT_N and the configuration are as they were. -/
structure SameNotices (s t : State) : Prop where
  notices : t.notices = s.notices
  nextSeq : t.nextSeq = s.nextSeq
  alertN : t.alertN = s.alertN
  config : t.config = s.config

theorem NoticeInv.congr {s t : State} (h : NoticeInv s) (hst : SameNotices s t) : NoticeInv t := by
  unfold NoticeInv
  rw [hst.notices, hst.nextSeq, hst.alertN, hst.config]
  exact h

/-- The Notice Queue takes ordinary notices, one after another, and nothing else happens to it. -/
inductive Raises (s : State) : State → Prop where
  | none {t : State} : SameNotices s t → Raises s t
  | next {t u : State} {b : NoticeBody} : Raises s t → IsOrdinary b → SameNotices (raise b t) u → Raises s u

theorem NoticeInv.raises {s t : State} (h : NoticeInv s) (hst : Raises s t) : NoticeInv t := by
  induction hst with
  | none hsame => exact h.congr hsame
  | next _ hb hsame ih => exact (ih.raise hb).congr hsame

theorem SameNotices.trans {s t u : State} (h : SameNotices s t) (h' : SameNotices t u) : SameNotices s u :=
  ⟨h'.notices.trans h.notices, h'.nextSeq.trans h.nextSeq, h'.alertN.trans h.alertN, h'.config.trans h.config⟩

theorem Raises.same {s t u : State} (h : Raises s t) (h' : SameNotices t u) : Raises s u := by
  cases h with
  | none hsame => exact .none (hsame.trans h')
  | next hraises hb hsame => exact .next hraises hb (hsame.trans h')

theorem Raises.trans {s t u : State} (h : Raises s t) (h' : Raises t u) : Raises s u := by
  induction h' with
  | none hsame => exact h.same hsame
  | next _ hb hsame ih => exact .next ih hb hsame

theorem raises_of_eq {s t : State} (hnotices : t.notices = s.notices) (hseq : t.nextSeq = s.nextSeq)
    (halert : t.alertN = s.alertN) (hconfig : t.config = s.config) : Raises s t := .none ⟨hnotices, hseq, halert, hconfig⟩

end Sys2Proof.Machine
end

section
/-! The Notice Queue along every command (R192 to R201): the events of lines, bus and Resolver raise ordinary notices, a
taken request raises them, fetches, empties the queue or switches alerts, and so every step keeps the queue. -/

namespace Sys2Proof.Machine

/-! ### The shared operations -/

theorem raises_self (s : State) : Raises s s := raises_of_eq rfl rfl rfl rfl

theorem raises_raise {b : NoticeBody} (hb : IsOrdinary b) (s : State) : Raises s (raise b s) :=
  .next (raises_self s) hb ⟨rfl, rfl, rfl, rfl⟩

theorem raises_raiseAll {bs : List NoticeBody} (hbs : ∀ b ∈ bs, IsOrdinary b) (s : State) : Raises s (raiseAll bs s) := by
  induction bs generalizing s with
  | nil => exact raises_self s
  | cons b bs ih =>
    obtain ⟨hb, hrest⟩ := List.forall_mem_cons.mp hbs
    exact (raises_raise hb s).trans (ih hrest (raise b s))

/-- An entry that goes STALE raises PROFILE_STALE or APPLIED_BROKEN (R140). -/
theorem isOrdinary_staleNotice {hit : SlotNo → Bool} {e : Entry} {b : NoticeBody} (h : staleNotice hit e = some b) :
    IsOrdinary b := by
  unfold staleNotice at h
  split at h
  next =>
    split_ifs at h
    · obtain ⟨_, _, rfl⟩ := Option.map_eq_some_iff.mp h
      rfl
    · cases h
      rfl
  all_goals exact nomatch h

theorem raises_staleSlots (hit : SlotNo → Bool) (s : State) : Raises s (staleSlots hit s) := by
  have haged : Raises s { s with entries := s.entries.map (staleEntry hit) } := raises_of_eq rfl rfl rfl rfl
  refine haged.trans (raises_raiseAll (fun b hb => ?_) _)
  obtain ⟨_, _, hnotice⟩ := List.mem_filterMap.mp hb
  exact isOrdinary_staleNotice hnotice

theorem raises_staleAll (s : State) : Raises s (staleAll s) := by
  have haged : Raises s { s with entries := s.entries.map staleByTarget } := raises_of_eq rfl rfl rfl rfl
  have hstale : ∀ b ∈ (s.entries.filter isValid).map fun e => NoticeBody.profileStale e.handle, IsOrdinary b :=
    List.forall_mem_map.mpr fun _ _ => rfl
  exact haged.trans (raises_raiseAll hstale _)

theorem raises_slotEvent (own : SlotNo → Bool) (changed : Eight Slot) {bodies : List NoticeBody}
    (hbodies : ∀ b ∈ bodies, IsOrdinary b) (s : State) : Raises s (slotEvent own changed bodies s) := by
  have hcommitted : Raises s (commitSlots own changed s) := raises_of_eq rfl rfl rfl rfl
  exact (hcommitted.trans (raises_raiseAll hbodies _)).trans (raises_staleSlots _ _)

theorem raises_failScans (ns : List SlotNo) (c : UnreadableCause) (s : State) : Raises s (failScans ns c s) := by
  have hdone : ∀ b ∈ ns.map fun n => NoticeBody.scanDone n .unreadable, IsOrdinary b :=
    List.forall_mem_map.mpr fun _ _ => rfl
  exact raises_slotEvent _ _ hdone s

theorem isOrdinary_scanNotices (n : SlotNo) (old : Slot) (img : List Byte) (newClash : List SlotNo) :
    ∀ b ∈ scanNotices n old img newClash, IsOrdinary b := by
  refine List.forall_mem_append.mpr ⟨List.forall_mem_append.mpr ⟨?_, ?_⟩, ?_⟩
  · split
    · exact List.forall_mem_singleton.mpr rfl
    · exact List.forall_mem_nil _
  · exact List.forall_mem_singleton.mpr rfl
  · split
    · exact List.forall_mem_singleton.mpr rfl
    · exact List.forall_mem_nil _

theorem raises_completeScan (n : SlotNo) (img : List Byte) (s : State) : Raises s (completeScan n img s) :=
  raises_slotEvent _ _ (isOrdinary_scanNotices _ _ _ _) s

theorem raises_enterFaulted (announce : Bool) (s : State) : Raises s (enterFaulted announce s) := by
  have hended : Raises s
      (endTags .busFault [] (s.jobs.flatMap Job.tags) { s with bus := .faulted, inFlight := none, jobs := [] }) :=
    raises_of_eq (by simp) (by simp) (by simp) (by simp)
  have hfailed := hended.trans (raises_failScans (presenceScanSlots s.jobs) .bus _)
  unfold enterFaulted
  dsimp only
  split
  · exact hfailed.trans (raises_raise (b := .busFaulted) rfl _)
  · exact hfailed

theorem sameNotices_endTags (st : Status) (payload tags : List Byte) (s : State) :
    SameNotices s (endTags st payload tags s) := ⟨by simp, by simp, by simp, by simp⟩

theorem sameNotices_startNext (s : State) : SameNotices s (startNext s) :=
  ⟨by simp, by simp, by simp, by simp⟩

theorem sameNotices_finishJob (s : State) : SameNotices s (finishJob s) :=
  ⟨by simp, by simp, by simp, by simp⟩

theorem sameNotices_endStopped (f : InFlight) (s : State) : SameNotices s (endStopped f s) :=
  ⟨by simp, by simp, by simp, by simp⟩

theorem sameNotices_ended (st : Status) (payload tags : List Byte) (s : State) :
    SameNotices s (finishJob (endTags st payload tags s)) := (sameNotices_endTags ..).trans (sameNotices_finishJob _)

theorem sameNotices_changeCopy (n : SlotNo) (change : ImageCopy → ImageCopy) (s : State) :
    SameNotices s (changeCopy n change s) := ⟨rfl, rfl, rfl, rfl⟩

/-! ### The events -/

theorem raises_removal (n : SlotNo) (s : State) : Raises s (removal n s) := by
  have hevent : Raises s (removalEvent n s) :=
    raises_slotEvent (bodies := [.slotRemoved n]) _ _ (List.forall_mem_singleton.mpr rfl) s
  rw [removal_frame]
  exact hevent.same ⟨rfl, rfl, rfl, rfl⟩

theorem raises_presenceHigh (n : SlotNo) (s : State) : Raises s (presenceHigh n s) := by
  unfold presenceHigh
  split
  · exact raises_self s
  · exact raises_of_eq rfl rfl rfl rfl
  all_goals exact raises_removal n s

theorem raises_insertion (n : SlotNo) (s : State) : Raises s (insertion n s) := by
  refine .trans ?_ (raises_raise (b := .slotInserted n) rfl _)
  split
  · exact raises_of_eq rfl rfl rfl rfl
  · exact raises_of_eq (by simp) (by simp) (by simp) (by simp)

theorem raises_segmentEnd (n : SlotNo) (f : InFlight) (bytes : List Byte) (s : State) :
    Raises s (segmentEnd n f bytes s) := by
  unfold segmentEnd
  dsimp only
  split_ifs
  · exact .none (sameNotices_endStopped f s)
  · exact (raises_completeScan ..).same (sameNotices_ended ..)
  · exact raises_of_eq rfl rfl rfl rfl

theorem raises_deliverFailure (f : InFlight) (c : UnreadableCause) (st : Status) (s : State) :
    Raises s (deliverFailure f c st s) := by
  unfold deliverFailure
  split
  · exact (raises_failScans ..).same (sameNotices_endTags ..)
  · exact .none (sameNotices_endTags ..)
  · split
    · exact .none ((sameNotices_changeCopy ..).trans (sameNotices_endTags ..))
    · exact .none (sameNotices_endTags ..)
  · exact raises_self s

theorem raises_transactionEnd (f : InFlight) (s : State) : Raises s (transactionEnd f s) := by
  unfold transactionEnd
  split_ifs
  · exact .none (sameNotices_endStopped f s)
  · exact raises_of_eq rfl rfl rfl rfl
  · exact (raises_deliverFailure ..).same (sameNotices_finishJob _)

theorem raises_stuckFailure (f : InFlight) (s : State) : Raises s (stuckFailure f s) := by
  unfold stuckFailure
  split
  · exact .none (sameNotices_endTags ..)
  · exact raises_deliverFailure ..

theorem sameNotices_recoveryRescans (s : State) : SameNotices s (recoveryRescans s) := by
  rw [recoveryRescans_eq, demandScans_frame]
  exact ⟨rfl, rfl, rfl, rfl⟩

theorem raises_busRecovered (f : InFlight) (s : State) : Raises s (busRecovered f s) := by
  have hended : Raises s (endTags .ok [] f.job.tags { s with inFlight := none, bus := .idle }) :=
    raises_of_eq (by simp) (by simp) (by simp) (by simp)
  have hraised := hended.trans (raises_raise (b := .busRecovered) rfl _)
  exact hraised.same ((sameNotices_recoveryRescans _).trans (sameNotices_startNext _))

theorem raises_recoverEnd (f : InFlight) (free : Bool) (s : State) : Raises s (recoverEnd f free s) := by
  unfold recoverEnd
  split
  · exact .none (sameNotices_ended ..)
  · exact .trans (.none (sameNotices_endTags ..)) (raises_enterFaulted ..)
  · exact raises_busRecovered f s
  · exact .trans (.none (sameNotices_endTags ..)) (raises_enterFaulted ..)

theorem raises_recoveryOutcome (free : Bool) (s : State) : Raises s (recoveryOutcome free s) := by
  unfold recoveryOutcome
  split
  next f _ => exact raises_recoverEnd f free s
  next =>
    split
    · exact raises_of_eq (by simp) (by simp) (by simp) (by simp)
    · exact raises_enterFaulted ..

theorem sameNotices_pollEnd (f : InFlight) (n : SlotNo) (off : Nat) (acked : Bool) (s : State) :
    SameNotices s (pollEnd f n off acked s) := by
  unfold pollEnd
  split_ifs
  · exact ⟨rfl, rfl, rfl, rfl⟩
  · exact ⟨rfl, rfl, rfl, rfl⟩
  · exact (sameNotices_changeCopy ..).trans (sameNotices_ended ..)

theorem sameNotices_readBackEnd (f : InFlight) (n : SlotNo) (off : Nat) (data page : List Byte) (s : State) :
    SameNotices s (readBackEnd f n off data page s) := by
  unfold readBackEnd
  split <;> exact (sameNotices_changeCopy ..).trans (sameNotices_ended ..)

theorem sameNotices_resolutionEnd (w : Work) (e : Entry) (tag : Byte) (sn : Snapshot) (s : State) :
    SameNotices s (resolutionEnd w e tag sn s) :=
  ⟨by simp [resolutionEnd], by simp [resolutionEnd], by simp [resolutionEnd], by simp [resolutionEnd]⟩

/-- An event of lines, bus or Resolver raises ordinary notices, or none. -/
theorem exec_raises {s t : State} {c : Instr} (hc : isModuleEvent c) (ht : exec c s = .next t) : Raises s t := by
  obtain ⟨hframe, hreset, hbyte, hgap, hstart, hsent⟩ := hc
  cases c with
  | lineReset => exact absurd rfl hreset
  | byteReceived b => exact absurd rfl (hbyte b)
  | gapExpiry => exact absurd rfl hgap
  | replySendStart => exact absurd rfl hstart
  | replySent => exact absurd rfl hsent
  | lineResetRelease rate pres =>
    rcases exec_lineResetRelease_cases ht with rfl | ⟨_, rfl⟩
    · exact raises_self _
    · exact raises_of_eq rfl rfl rfl rfl
  | presenceLow n =>
    rcases exec_presenceLow_cases ht with ⟨_, rfl⟩ | ⟨_, rfl⟩
    · exact raises_self _
    · exact raises_of_eq (by simp) (by simp) (by simp) (by simp)
  | presenceHigh n =>
    rcases exec_presenceHigh_cases ht with ⟨_, rfl⟩ | ⟨_, rfl⟩
    · exact raises_self _
    · have hlevel : Raises s { s with pres := s.pres.set n true } := raises_of_eq rfl rfl rfl rfl
      exact hlevel.trans (raises_presenceHigh n _)
  | settleExpiry n =>
    rcases exec_settleExpiry_cases ht with rfl | ⟨_, rfl⟩
    · exact raises_self _
    · exact raises_insertion n s
  | segmentDone bytes =>
    rcases exec_segmentDone_cases ht with rfl | ⟨f, n, _, _, _, rfl⟩
    · exact raises_self _
    · exact raises_segmentEnd n f bytes s
  | transactionFailed acked =>
    rcases exec_transactionFailed_cases ht with rfl | ⟨f, _, _, rfl⟩
    · exact raises_self _
    · exact raises_transactionEnd _ s
  | retryTimerExpiry =>
    rcases exec_retryTimerExpiry_cases ht with rfl | ⟨f, _, _, ⟨_, rfl⟩ | ⟨_, rfl⟩⟩
    · exact raises_self _
    · exact .none (sameNotices_endStopped f s)
    · exact raises_of_eq rfl rfl rfl rfl
  | stuckBus acked =>
    rcases exec_stuckBus_cases ht with rfl | ⟨f, _, _, rfl⟩
    · exact raises_self _
    · exact (raises_stuckFailure (noteAcked acked f) s).same ⟨rfl, rfl, rfl, rfl⟩
  | recoveryEnd looks scl sda =>
    rcases exec_recoveryEnd_cases ht with rfl | ⟨_, rfl⟩
    · exact raises_self _
    · have hlooked : Raises s { s with pulses := pulsesSent looks } := raises_of_eq rfl rfl rfl rfl
      exact hlooked.trans (raises_recoveryOutcome _ _)
  | moduleReadDone bytes =>
    rcases exec_moduleReadDone_cases ht with rfl | ⟨f, n, off, len, _, _, rfl | rfl⟩
    · exact raises_self _
    · exact .none (sameNotices_endStopped f s)
    · exact .none (sameNotices_ended ..)
  | pageWriteDone =>
    rcases exec_pageWriteDone_cases ht with rfl | ⟨f, _, _, rfl⟩
    · exact raises_self _
    · exact raises_of_eq rfl rfl rfl rfl
  | pollTimerExpiry =>
    rcases exec_pollTimerExpiry_cases ht with rfl | ⟨f, _, _, rfl⟩
    · exact raises_self _
    · exact raises_of_eq rfl rfl rfl rfl
  | pollDone acked =>
    rcases exec_pollDone_cases ht with rfl | ⟨f, n, off, data, _, _, _, rfl⟩
    · exact raises_self _
    · exact .none (sameNotices_pollEnd f n off acked s)
  | readBackDone bytes =>
    rcases exec_readBackDone_cases ht with rfl | ⟨f, n, off, data, _, _, rfl⟩
    · exact raises_self _
    · exact .none (sameNotices_readBackEnd f n off data bytes s)
  | userWriteAbandonEnd =>
    rcases exec_userWriteAbandonEnd_cases ht with rfl | ⟨_, _, _, rfl⟩
    · exact raises_self _
    · exact .none (sameNotices_finishJob s)
  | resolutionComplete =>
    rcases exec_resolutionComplete_cases ht with rfl | ⟨w, e, tag, sn, rfl⟩
    · exact raises_self _
    · exact .none (sameNotices_resolutionEnd w e tag sn s)
  | characterDropped =>
    cases ht
    exact raises_self _
  | _ => exact nomatch hframe

/-! ### The owners -/

theorem NoticeInv.answer {s : State} (h : NoticeInv s) (tag kind : Byte) (st : Status) (payload : List Byte) :
    NoticeInv (answer tag kind st payload s) := h.congr ⟨rfl, rfl, rfl, rfl⟩

theorem raises_replaceTarget (target : Target) (s : State) : Raises s (replaceTarget target s) := by
  have hreplaced : Raises s { s with target := target, targetGen := s.targetGen + 1 } := raises_of_eq rfl rfl rfl rfl
  exact hreplaced.trans (raises_staleAll _)

theorem raises_changeOverrides (n : SlotNo) (os : List Override) (s : State) : Raises s (changeOverrides n os s) := by
  refine .trans ?_ (raises_staleSlots _ _)
  exact raises_of_eq rfl rfl rfl rfl

/-- ALERT_N follows alert enable (R103). -/
theorem NoticeInv.configure {s : State} (h : NoticeInv s) (c : Configuration) :
    NoticeInv (updateAlert { s with config := c }) :=
  noticeInv_iff.mpr ⟨QueueOk.of_noticeInv (s := s) h, rfl⟩

/-- ALERT_N follows the records that are left (R197). -/
theorem NoticeInv.fetch {s : State} (h : NoticeInv s) (m : Nat) :
    NoticeInv (updateAlert { s with notices := s.notices.drop m }) :=
  noticeInv_iff.mpr ⟨(QueueOk.of_noticeInv h).drop m, rfl⟩

/-- A session reset leaves no record, and the counter as it was (R200). -/
theorem noticeInv_sessionNotices (s : State) : NoticeInv (sessionNotices s) := noticeInv_iff.mpr ⟨queueOk_nil _, rfl⟩

theorem sameNotices_cancelledThenOk (tag g : Byte) (s : State) : SameNotices s (cancelledThenOk tag g s) :=
  ⟨by simp [cancelledThenOk], by simp [cancelledThenOk], by simp [cancelledThenOk], by simp [cancelledThenOk]⟩

theorem sameNotices_dropFlightClaim (g : Byte) (f : InFlight) (s : State) : SameNotices s (dropFlightClaim g f s) := by
  unfold dropFlightClaim
  dsimp only
  split
  · exact ⟨by simp, by simp, by simp, by simp⟩
  · exact ⟨rfl, rfl, rfl, rfl⟩

/-- The requests that change the queue or alert enable let ALERT_N follow, and no other does more than raise notices. -/
theorem OwnerDoes.noticeInv {tag kind : Byte} {s t : State} (h : OwnerDoes tag kind s t) (hs : NoticeInv s) :
    NoticeInv t := by
  cases h with
  | configures => exact (hs.configure _).answer ..
  | fetches => exact (hs.fetch _).answer ..
  | targets => exact (hs.raises (raises_replaceTarget _ s)).answer ..
  | overrides => exact (hs.raises (raises_changeOverrides _ _ s)).answer ..
  | resets => exact noticeInv_sessionNotices _
  | closes =>
    exact hs.congr ⟨by simp [resetByFull], by simp [resetByFull], by simp [resetByFull], by simp [resetByFull]⟩
  | queues =>
    exact hs.congr ⟨by simp [takeJob], by simp [takeJob], by simp [takeJob], by simp [takeJob]⟩
  | resolves =>
    exact hs.congr ⟨by simp [takeResolve], by simp [takeResolve], by simp [takeResolve], by simp [takeResolve]⟩
  | unqueues =>
    refine hs.congr (.trans ?_ (sameNotices_cancelledThenOk ..))
    exact ⟨rfl, rfl, rfl, rfl⟩
  | unclaims => exact hs.congr ((sameNotices_cancelledThenOk ..).trans (sameNotices_dropFlightClaim ..))
  | _ => exact hs.congr ⟨by simp, by simp, by simp, by simp⟩

theorem linkKeeps_noticeInv : LinkKeeps NoticeInv where
  receiver _ _ h := h.congr ⟨rfl, rfl, rfl, rfl⟩
  dropped _ _ h := h.raise rfl
  refused _ _ _ _ h := h.answer ..
  owned tag kind payload s _ h := (ownerOf_does tag payload s kind).noticeInv h

/-! ### Every command -/

theorem noticeInv_reset : NoticeInv State.reset := noticeInv_iff.mpr ⟨queueOk_nil _, rfl⟩

theorem NoticeInv.exec_keeps {s t : State} (h : NoticeInv s) {c : Instr} (ht : exec c s = .next t) : NoticeInv t := by
  cases hframe : requestFrame c with
  | some frame => exact linkKeeps_noticeInv.exec_request hframe h ht
  | none =>
    by_cases hreset : c = .lineReset
    · subst hreset
      cases ht
      exact noticeInv_reset.congr ⟨rfl, rfl, rfl, rfl⟩
    by_cases hgap : c = .gapExpiry
    · exact linkKeeps_noticeInv.exec_gapExpiry h (hgap ▸ ht)
    by_cases hbyte : ∃ b, c = .byteReceived b
    · obtain ⟨b, rfl⟩ := hbyte
      exact linkKeeps_noticeInv.exec_byteReceived h ht
    by_cases hstart : c = .replySendStart
    · rcases exec_replySendStart_cases (hstart ▸ ht) with rfl | ⟨r, rest, rfl⟩
      · exact h
      · exact h.congr ⟨rfl, rfl, rfl, rfl⟩
    by_cases hsent : c = .replySent
    · rcases exec_replySent_cases (hsent ▸ ht) with rfl | rfl | ⟨_, rfl⟩
      · exact h
      · exact h.congr ⟨rfl, rfl, rfl, rfl⟩
      · exact noticeInv_reset.congr ⟨rfl, rfl, rfl, rfl⟩
    exact h.raises (exec_raises ⟨hframe, hreset, fun b hb => hbyte ⟨b, hb⟩, hgap, hstart, hsent⟩ ht)

/-- Settles O56: command by command, as notices are raised and fetched, alerts switched and the queue emptied. -/
theorem stepKeepsNoticeQueue : Obligations.StepKeepsNoticeQueue := by
  intro s t h ht
  rcases step_cases ht with rfl | ⟨c, rest, hexec⟩
  · exact h.notices
  · exact (h.withPending rest).notices.exec_keeps hexec

end Sys2Proof.Machine
end

section
/-! The queue of commands along every command (log 1): `step` takes the front command off it, and no command touches what
is left of it or stops the part. -/

namespace Sys2Proof.Machine

/-! ### A step and the queue -/

theorem step_of_waiting {c : Instr} {rest : List Instr} {s : State} (h : s.pending = c :: rest) :
    step s = exec c { s with pending := rest } := by
  rw [step, h]

theorem step_of_idle {s : State} (h : s.pending = []) : step s = .next s := by
  rw [step, h]

/-- Settles O1: by what stands at the front of the queue. -/
theorem stepRunsFrontCommand : Obligations.StepRunsFrontCommand :=
  ⟨fun _ _ _ => step_of_waiting, fun _ => step_of_idle⟩

/-! ### The events -/

@[simp] theorem removal_pending (n : SlotNo) (s : State) : (removal n s).pending = s.pending := by
  rw [removal_frame]
  simp [removalEvent]

@[simp] theorem presenceHigh_pending (n : SlotNo) (s : State) : (presenceHigh n s).pending = s.pending := by
  unfold presenceHigh
  split
  · rfl
  · rfl
  all_goals exact removal_pending n s

@[simp] theorem insertion_pending (n : SlotNo) (s : State) : (insertion n s).pending = s.pending := by
  rw [insertion, raise_pending]
  split
  · rfl
  · exact demandScan_pending ..

@[simp] theorem segmentEnd_pending (n : SlotNo) (f : InFlight) (bytes : List Byte) (s : State) :
    (segmentEnd n f bytes s).pending = s.pending := by
  unfold segmentEnd
  dsimp only
  split_ifs
  · exact endStopped_pending f s
  · simp [scanCompletion]
  · rfl

@[simp] theorem deliverFailure_pending (f : InFlight) (c : UnreadableCause) (st : Status) (s : State) :
    (deliverFailure f c st s).pending = s.pending := by
  unfold deliverFailure
  split
  · rw [endTags_pending, failScans_pending]
  · exact endTags_pending ..
  · rw [endTags_pending]
    split
    · exact changeCopy_pending ..
    · rfl
  · rfl

@[simp] theorem transactionEnd_pending (f : InFlight) (s : State) : (transactionEnd f s).pending = s.pending := by
  unfold transactionEnd
  split_ifs
  · exact endStopped_pending f s
  · rfl
  · rw [finishJob_pending, deliverFailure_pending]

@[simp] theorem stuckFailure_pending (f : InFlight) (s : State) : (stuckFailure f s).pending = s.pending := by
  unfold stuckFailure
  split
  · exact endTags_pending ..
  · exact deliverFailure_pending ..

@[simp] theorem recoveryRescans_pending (s : State) : (recoveryRescans s).pending = s.pending := by
  rw [recoveryRescans_eq, demandScans_frame]

@[simp] theorem recoverEnd_pending (f : InFlight) (free : Bool) (s : State) :
    (recoverEnd f free s).pending = s.pending := by
  unfold recoverEnd
  split
  · rw [finishJob_pending, endTags_pending]
  · rw [enterFaulted_pending, endTags_pending]
  · rw [busRecovered, startNext_pending, recoveryRescans_pending, raise_pending, endTags_pending]
  · rw [enterFaulted_pending, endTags_pending]

@[simp] theorem recoveryOutcome_pending (free : Bool) (s : State) : (recoveryOutcome free s).pending = s.pending := by
  unfold recoveryOutcome
  split
  next f _ => exact recoverEnd_pending f free s
  next =>
    split
    · exact startNext_pending _
    · exact enterFaulted_pending ..

@[simp] theorem pollEnd_pending (f : InFlight) (n : SlotNo) (off : Nat) (acked : Bool) (s : State) :
    (pollEnd f n off acked s).pending = s.pending := by
  unfold pollEnd
  split_ifs
  · rfl
  · rfl
  · rw [writeTimeout, finishJob_pending, endTags_pending, changeCopy_pending]

@[simp] theorem readBackEnd_pending (f : InFlight) (n : SlotNo) (off : Nat) (data page : List Byte) (s : State) :
    (readBackEnd f n off data page s).pending = s.pending := by
  unfold readBackEnd
  split <;> rw [finishJob_pending, endTags_pending, changeCopy_pending]

@[simp] theorem resolutionEnd_pending (w : Work) (e : Entry) (tag : Byte) (sn : Snapshot) (s : State) :
    (resolutionEnd w e tag sn s).pending = s.pending := by
  simp [resolutionEnd]

@[simp] theorem fullReset_pending (s : State) : (fullReset s).pending = s.pending := rfl

/-! ### Frames and received bytes -/

@[simp] theorem cancelledThenOk_pending (tag g : Byte) (s : State) : (cancelledThenOk tag g s).pending = s.pending := by
  rw [cancelledThenOk, answer_pending, endRequest_pending]

@[simp] theorem dropFlightClaim_pending (g : Byte) (f : InFlight) (s : State) :
    (dropFlightClaim g f s).pending = s.pending := by
  unfold dropFlightClaim
  dsimp only
  split
  · exact markToStop_pending ..
  · rfl

theorem OwnerDoes.pending {tag kind : Byte} {s t : State} (h : OwnerDoes tag kind s t) : t.pending = s.pending := by
  cases h with
  | targets => simp [replaceTarget]
  | overrides => simp [changeOverrides]
  | queues => simp [takeJob]
  | resolves => simp [takeResolve]
  | resets => simp [resetBySession, sessionReset]
  | closes => simp [resetByFull]
  | _ => simp

theorem linkKeeps_pending (waiting : List Instr) : LinkKeeps fun s => s.pending = waiting where
  receiver _ _ h := h
  dropped _ s h := (raise_pending _ s).trans h
  refused _ _ _ _ h := h
  owned tag kind payload s _ h := (ownerOf_does tag payload s kind).pending.trans h

/-! ### Every command -/

/-- What a command answers has the queue the command found (log 1). -/
theorem exec_pending {s t : State} {c : Instr} (ht : exec c s = .next t) : t.pending = s.pending := by
  have hlink := linkKeeps_pending s.pending
  cases hframe : requestFrame c with
  | some frame => exact hlink.exec_request hframe rfl ht
  | none =>
    cases c with
    | lineReset =>
      cases ht
      rfl
    | lineResetRelease rate pres =>
      rcases exec_lineResetRelease_cases ht with rfl | ⟨_, rfl⟩
      · rfl
      · exact samplePresence_pending _
    | presenceLow n =>
      rcases exec_presenceLow_cases ht with ⟨_, rfl⟩ | ⟨_, rfl⟩
      · rfl
      · exact startSettling_pending ..
    | presenceHigh n =>
      rcases exec_presenceHigh_cases ht with ⟨_, rfl⟩ | ⟨_, rfl⟩
      · rfl
      · exact presenceHigh_pending ..
    | settleExpiry n =>
      rcases exec_settleExpiry_cases ht with rfl | ⟨_, rfl⟩
      · rfl
      · exact insertion_pending n s
    | segmentDone bytes =>
      rcases exec_segmentDone_cases ht with rfl | ⟨f, n, _, _, _, rfl⟩
      · rfl
      · exact segmentEnd_pending n f bytes s
    | transactionFailed acked =>
      rcases exec_transactionFailed_cases ht with rfl | ⟨f, _, _, rfl⟩
      · rfl
      · exact transactionEnd_pending _ s
    | retryTimerExpiry =>
      rcases exec_retryTimerExpiry_cases ht with rfl | ⟨f, _, _, ⟨_, rfl⟩ | ⟨_, rfl⟩⟩
      · rfl
      · exact endStopped_pending f s
      · rfl
    | stuckBus acked =>
      rcases exec_stuckBus_cases ht with rfl | ⟨f, _, _, rfl⟩
      · rfl
      · exact stuckFailure_pending _ s
    | recoveryEnd looks scl sda =>
      rcases exec_recoveryEnd_cases ht with rfl | ⟨_, rfl⟩
      · rfl
      · exact recoveryOutcome_pending ..
    | moduleReadDone bytes =>
      rcases exec_moduleReadDone_cases ht with rfl | ⟨f, n, off, len, _, _, rfl | rfl⟩
      · rfl
      · exact endStopped_pending f s
      · rw [finishJob_pending, endTags_pending]
    | pageWriteDone =>
      rcases exec_pageWriteDone_cases ht with rfl | ⟨f, _, _, rfl⟩ <;> rfl
    | pollTimerExpiry =>
      rcases exec_pollTimerExpiry_cases ht with rfl | ⟨f, _, _, rfl⟩ <;> rfl
    | pollDone acked =>
      rcases exec_pollDone_cases ht with rfl | ⟨f, n, off, data, _, _, _, rfl⟩
      · rfl
      · exact pollEnd_pending f n off acked s
    | readBackDone bytes =>
      rcases exec_readBackDone_cases ht with rfl | ⟨f, n, off, data, _, _, rfl⟩
      · rfl
      · exact readBackEnd_pending f n off data bytes s
    | userWriteAbandonEnd =>
      rcases exec_userWriteAbandonEnd_cases ht with rfl | ⟨_, _, _, rfl⟩
      · rfl
      · exact finishJob_pending s
    | resolutionComplete =>
      rcases exec_resolutionComplete_cases ht with rfl | ⟨w, e, tag, sn, rfl⟩
      · rfl
      · exact resolutionEnd_pending w e tag sn s
    | characterDropped =>
      cases ht
      rfl
    | byteReceived b => exact hlink.exec_byteReceived rfl ht
    | gapExpiry => exact hlink.exec_gapExpiry rfl ht
    | replySendStart =>
      rcases exec_replySendStart_cases ht with rfl | ⟨r, rest, rfl⟩ <;> rfl
    | replySent =>
      rcases exec_replySent_cases ht with rfl | rfl | ⟨_, rfl⟩
      · rfl
      · rfl
      · exact fullReset_pending _
    | _ => exact nomatch hframe

/-- Every command answers a next state: an event is looked at by the job in flight and its work, by the working record, or by
the reply being sent, and answers in each case (log 3); any other command answers at once. -/
theorem exec_answers (c : Instr) (s : State) : ∃ t, exec c s = .next t := by
  cases c with
  | segmentDone | moduleReadDone | pollDone | readBackDone =>
    simp only [exec, execSegmentDone, execModuleReadDone, execPollDone, execReadBackDone]
    split
    next => split <;> exact ⟨_, rfl⟩
    next => exact ⟨_, rfl⟩
  | transactionFailed | retryTimerExpiry | stuckBus | pageWriteDone | pollTimerExpiry | userWriteAbandonEnd =>
    simp only [exec, execTransactionFailed, execRetryTimerExpiry, execStuckBus, execPageWriteDone, execPollTimerExpiry,
      execUserWriteAbandonEnd]
    split <;> exact ⟨_, rfl⟩
  | resolutionComplete =>
    simp only [exec, execResolutionComplete]
    split
    next => split <;> exact ⟨_, rfl⟩
    next => exact ⟨_, rfl⟩
    next => exact ⟨_, rfl⟩
  | replySendStart | replySent =>
    simp only [exec, execReplySendStart, execReplySent]
    split <;> exact ⟨_, rfl⟩
  | _ => exact ⟨_, rfl⟩

/-- Settles O2: every command answers, and what it answers keeps the queue. -/
theorem noCommandStops : Obligations.NoCommandStops := fun c s =>
  let ⟨t, ht⟩ := exec_answers c s
  ⟨t, ht, exec_pending ht⟩

end Sys2Proof.Machine
end
